-- ==== Sys2Proof/Word.lean ====
section
/-! DEFINITION. The word types of the part and their plainest arithmetic: bytes, 8-byte units, 32-bit words. -/

namespace Sys2Proof

/-- One byte of the frame store. -/
abbrev Byte := BitVec 8

/-- The 64 data bits of one aligned 8-byte unit (R169, R181). -/
abbrev Word := BitVec 64

/-- Byte `j` of a unit, byte 0 at the lowest address (little-endian, R203). -/
def Word.byte (w : Word) (j : Nat) : Byte := w.extractLsb' (8 * j) 8

/-- The unit whose byte `j` is `f j`. -/
def Word.ofBytes (f : Nat → Byte) : Word :=
  f 7 ++ f 6 ++ f 5 ++ f 4 ++ f 3 ++ f 2 ++ f 1 ++ f 0

/-- The greatest value of a 32-bit count. -/
def max32 : Nat := 4294967295

/-- Addition to a 32-bit count that saturates. -/
def satAdd (a b : Nat) : Nat := min (a + b) max32

end Sys2Proof
end

