-- ==== Sys2Proof/Syntax.lean ====
section
/-! DEFINITION. The commands of the part: one constructor for each row of spec/opcode_table.json. -/

namespace Sys2Proof

/-- What the ECC logic finds in a unit it reads (R188). -/
inductive EccCondition where
  | correct
  | corrected
  | uncorrectable
  deriving DecidableEq, Repr

/-- DESIGN CHOICE (log 4): what single-event upsets have made of a unit since it was last accessed,
stated at the next access: the condition the ECC logic finds from now on and the delivered data bits
that differ. -/
structure Upset where
  found : EccCondition
  mask : Word
  deriving DecidableEq, Repr

/-- The commands. A beat names its master, its transaction's address, its index in the burst and the
burst's length (R169). An operand `which` numbers, oldest first and from 0, the accesses in flight that
could complete. -/
inductive Instr where
  | resetAssert
  | resetRelease (bypass : Bool) (planSel memSize : BitVec 2)
  | frameBusReadBeat (master : Nat) (addr : BitVec 36) (index length : Nat)
  | frameBusWriteBeat (master : Nat) (addr : BitVec 36) (index length : Nat) (enables : BitVec 8) (data : Word)
  | frameBusReadDelivered (which : Nat)
  | frameBusWriteComplete (which : Nat)
  | rawWriteBeat (master : Nat) (addr : BitVec 36) (index length : Nat) (enables : BitVec 8) (data : Word)
  | holdLimitExpiry (master : Nat)
  | cellReadBeat (master : Nat) (addr : BitVec 36) (index length : Nat)
  | cellWriteBeat (master : Nat) (addr : BitVec 36) (index length : Nat) (enables : BitVec 8) (data : Word)
  | protectedWriteBeat (master : Nat) (addr : BitVec 36) (index length : Nat) (enables : BitVec 8) (data : Word)
  /-- A beat of a transaction with the lock attribute; `write` is its direction (R172). -/
  | lockedRead (master : Nat) (write : Bool) (addr : BitVec 36) (index length : Nat) (enables : BitVec 8) (data : Word)
  | viewReadBeat (master : Nat) (addr : BitVec 36) (index length : Nat)
  | viewPositionDelivered (which : Nat)
  | viewWriteBeat (master : Nat) (addr : BitVec 36) (index length : Nat) (enables : BitVec 8) (data : Word)
  | requestWord
  | postWord
  | acknowledgeWord
  | maskWord
  | commitPlan
  | planBodyBeatDelivered (which : Nat)
  | openProduct
  | freezeProduct
  | thawProduct
  | renderProduct
  | discardProduct
  | haltJob
  | abortExposure
  | abortSearchReadDelivered
  | releaseTile
  | restart
  /-- The grant of one access; `upset` is what has happened to the unit it reaches (log 4). -/
  | portGrant (upset : Option Upset)
  | writeBackChoice
  | writeBackComplete (which : Nat)
  | rowApplyStart
  | pixelPresent
  | mergeFillDelivered
  | calFetchBeatDelivered (which : Nat)
  | activationAttempt
  | descriptorReadDone
  /-- The timer of the exposure that holds raw bank `bank`. -/
  | completionTimerExpiry (bank : Nat)
  | reportWriteStart
  | clearWriteComplete (which : Nat)
  | renderReadDelivered (which : Nat)
  | renderWriteComplete (which : Nat)
  | replyWriteStart
  | replyWriteComplete
  | statusWriteStart
  | statusWriteComplete
  | requestRecordReadDelivered
  deriving DecidableEq, Repr

end Sys2Proof
end

