-- ==== Sys2Proof/Config.lean ====
section
/-! DEFINITION. The constants the manual fixes for the part, and the two free values it leaves open. -/

namespace Sys2Proof.Config

/-- FREE VALUE (log 6): whether the n-th write found granted and not completed when RESET is asserted
reaches its unit (R116, R168, R186: it may or may not). No body: nothing can be proved of it. -/
opaque writeReaches : Nat → Bool

/-- FREE VALUE (log 36): the rs that the n-th view position is normalised with when its record is delivered after
its product has become undefined, so that no rs is installed for it (R164, R9). No body: nothing can be proved of
it but its width. -/
opaque absentRs : Nat → BitVec 3

/-- The plan area base that PLAN_SEL selects (R1). -/
def planBase (sel : BitVec 2) : Nat :=
  match sel.toNat with
  | 0 => 0
  | 1 => 0x4000000
  | 2 => 0x10000000
  | _ => 0x40000000

/-- The fitted DRAM size in bytes that MEM_SIZE selects (R1, R181). -/
def fitted (size : BitVec 2) : Nat := 0x200000000 * 2 ^ size.toNat

/-- Size of the plan area, 1 MiB (R5). -/
def planAreaSize : Nat := 0x100000
/-- Bytes of the plan body (12.2). -/
def bodyBytes : Nat := 0x2D40
/-- Beats of a plan load (12.2). -/
def bodyBeats : Nat := 1448
/-- Offsets within the plan area (12.2). -/
def requestWordAt : Nat := 0x4000
def postWordAt : Nat := 0x4008
def ackWordAt : Nat := 0x4010
def maskWordAt : Nat := 0x4018
def requestRecordAt : Nat := 0x4020
def replyAt : Nat := 0x4040
def statusAt : Nat := 0x4100
def ringAt : Nat := 0x8000
def reportsAt : Nat := 0x10000
/-- Units of the records the part moves (12.2, R204). -/
def replyUnits : Nat := 2
def statusUnits : Nat := 145
def descriptorUnits : Nat := 32
def reportUnits : Nat := 170
/-- The two markers (12.2). -/
def planMarker : Nat := 0x364E4C50
def descriptorMarker : Nat := 0x364E5845
/-- A raw bank window is 4 GiB, a segment 16 MiB, a row 4 KiB (section 2.1). -/
def bankSize : Nat := 0x100000000
def segmentSize : Nat := 0x1000000
def rowSize : Nat := 0x1000
/-- The holders the part has (R29, R93). -/
def slotCount : Nat := 48
def entryCount : Nat := 64
/-- Levels of the dirty count (R95). -/
def dirtyHigh : Nat := 32
def dirtyUrgent : Nat := 56
/-- Limit of the fairness count (R184). -/
def fairLimit : Nat := 8
/-- BLANK, the normalised value of a cell without hits (R160). -/
def blank : BitVec 16 := 0x8000#16

end Sys2Proof.Config
end

