-- ==== Sys2Proof/Machine/State.lean ====
section
/-! DEFINITION. Everything the spec gives the part to hold, as plain data, the two reasons a step can stop,
and the part right after hardware reset. -/

namespace Sys2Proof.Machine

/-! ### Stops -/

/-- Why a step stops with a fault. -/
inductive Fault where
  /-- Raised by the nine beat commands for a beat no bus transaction has: a burst length outside 1 to 16,
  or a beat index at or beyond the length (R169). Safe: the part goes no further. -/
  | malformedBeat
  deriving DecidableEq, Repr

/-- Why a command has no meaning. -/
inductive Refusal where
  /-- Raised by an arm of exec whose command is not modelled. Safe: the model goes no further. -/
  | notModelled (mnemonic : String)
  deriving DecidableEq, Repr

/-! ### The part and the frame store -/

/-- The latched straps (R1). -/
structure Straps where
  bypass : Bool
  planSel : BitVec 2
  memSize : BitVec 2
  deriving DecidableEq, Repr

/-- The part states (section 1.1). -/
inductive PartState where
  | bypass | unplanned | planned
  deriving DecidableEq, Repr

/-- One unit of the frame store: its data bits as delivered, and what its check bits make of it (R188). -/
structure StoredUnit where
  data : Word
  condition : EccCondition
  deriving DecidableEq, Repr

/-- The frame store (R181). A byte not listed reads 0 and a unit not listed reads correct (log 3). -/
structure Memory where
  cells : List Host.Cell
  flaws : List (Nat × EccCondition)
  deriving DecidableEq, Repr

/-! ### The frame bus -/

/-- One beat of a transaction (R169). `pair` is set on the write of a locked pair when it is taken (R173). -/
structure BusBeat where
  master : Nat
  write : Bool
  locked : Bool
  addr : BitVec 36
  index : Nat
  length : Nat
  enables : BitVec 8
  data : Word
  pair : Bool
  deriving DecidableEq, Repr

/-- How a beat completes on the bus (R169, R171). -/
inductive Answer where
  | done
  | data (w : Word)
  | error
  deriving DecidableEq, Repr

/-- A completed beat as its master sees it. -/
structure Response where
  master : Nat
  unit : Nat
  answer : Answer
  deriving DecidableEq, Repr

/-- The lock of a locked pair (R172, R173). -/
structure Lock where
  master : Nat
  unit : Nat
  pairTaken : Bool
  deriving DecidableEq, Repr

/-- A view read in progress (R164): the product and the geometry the beat was routed with, the cell of its
first position, the values answered so far, and whether the port's hold of its lock is still to begin (R185). -/
structure ViewRead where
  beat : BusBeat
  product : Nat
  total : Nat
  base : Nat
  first : Nat
  values : List (BitVec 16)
  holdDue : Bool
  deriving DecidableEq, Repr

/-- The fields of a request record (Table 12-7). -/
structure RequestRecord where
  product : Nat
  tag : Nat
  tile : Nat
  argument : BitVec 32
  complement : BitVec 32
  deriving DecidableEq, Repr

/-- How far the request in hand has come (R176, R178, R179). `working taken` keeps the state code that the
product had when the request was taken (R143). -/
inductive Stage where
  | reading
  | dispatched
  | working (taken : Nat)
  | replying
  deriving DecidableEq, Repr

/-- The request in hand (section 9.4). -/
structure Request where
  kind : Nat
  sequence : Nat
  record : RequestRecord
  stage : Stage
  deriving DecidableEq, Repr

/-- How far the merge buffer's part of a RESTART has come (R108). -/
structure RestartProgress where
  flushStarted : Bool
  mergeDone : Bool
  deriving DecidableEq, Repr

/-- The bus front. `views` lists the view reads that wait on a FILLING entry; one whose position is read from the
frame store is carried by its ask and its access (R164). -/
structure BusFront where
  lock : Option Lock
  lockWaiters : List BusBeat
  stalled : List BusBeat
  heldCells : List BusBeat
  views : List ViewRead
  inHand : Option Request
  restart : Option RestartProgress
  requestsLost : Nat
  protectCount : Nat
  responses : List Response
  deriving DecidableEq, Repr

/-! ### Row capture and calibration fetch -/

/-- Row slot states (section 2.2). -/
inductive SlotState where
  | free | collecting | closed | queued | applying
  deriving DecidableEq, Repr

/-- Closure kinds (section 2.3). -/
inductive Closure where
  | complete | gapped | short
  deriving DecidableEq, Repr

/-- The three frames of a calibration set (R49). -/
inductive Frame where
  | zero | dark | flat
  deriving DecidableEq, Repr

/-- Frame statuses (section 3.2). -/
inductive FrameStatus where
  | pending | loaded | absent | faulted
  deriving DecidableEq, Repr

/-- One frame of a slot: no status while the slot is FREE, and the row once loaded. -/
structure FrameHold where
  status : Option FrameStatus
  row : List (BitVec 16)
  deriving DecidableEq, Repr

/-- A row slot (section 2.2). `pixels` lists the received columns, ascending, with their values. -/
structure Slot where
  state : SlotState
  bank : Nat
  tag : Nat
  segment : Nat
  row : Nat
  next : Nat
  pixels : List (Nat × BitVec 16)
  oscSum : Nat
  oscCount : Nat
  closure : Option Closure
  zero : FrameHold
  dark : FrameHold
  flat : FrameHold
  deriving DecidableEq, Repr

/-- A FREE slot holds nothing (R48); the numbers that stand in for nothing are 0 (DESIGN CHOICE, log 45). -/
def Slot.blank : Slot :=
  { state := .free, bank := 0, tag := 0, segment := 0, row := 0, next := 0, pixels := [], oscSum := 0,
    oscCount := 0, closure := none, zero := ⟨none, []⟩, dark := ⟨none, []⟩, flat := ⟨none, []⟩ }

/-- A raw beat taken under case 4 of R27 that needs a slot. `arriving` is set only within the step of its
arrival; `limit` is the hold limit its timer runs to (R39, R41). -/
structure HeldBeat where
  beat : BusBeat
  bank : Nat
  segment : Nat
  row : Nat
  column : Nat
  limit : Nat
  arriving : Bool
  deriving DecidableEq, Repr

/-- A raw bank's binding and late condition (R26). -/
structure Bank where
  bound : Bool
  late : Bool
  deriving DecidableEq, Repr

/-- The row capture unit. -/
structure Capture where
  slots : List Slot
  ready : List Nat
  held : List HeldBeat
  banks : List Bank
  stray : Nat
  unclaimed : Nat
  late : Nat
  deriving DecidableEq, Repr

/-- One fetch of the fetch list (section 3.2). -/
structure Fetch where
  slot : Nat
  frame : Frame
  addr : Nat
  beats : Nat
  asked : Nat
  got : List (Nat × Word)
  deriving DecidableEq, Repr

/-! ### Pixel pipeline -/

/-- A bias state (R62). -/
structure Bias where
  seeded : Bool
  b16 : Nat
  deriving DecidableEq, Repr

/-- The kind of a pixel handed to the merge buffer (R72). -/
inductive PixelKind where
  | saturated
  | value (c : Int) (clamped : Bool)
  deriving DecidableEq, Repr

/-- A pixel handed to the merge buffer (R72), with the place it came from (R98). -/
structure Pixel where
  addr : Nat
  product : Nat
  tag : Nat
  bank : Nat
  segment : Nat
  row : Nat
  column : Nat
  kind : PixelKind
  deriving DecidableEq, Repr

/-- What a pixel not yet accepted waits for: an entry (R96), its fill (R97), or the end of a lock or of a
frame bus write (R97, R111, R113). -/
inductive Waiting where
  | allocation | fill | access
  deriving DecidableEq, Repr

/-- The row being applied (R70): its slot, the next column to look at, its bias B, and the pixel handed on
and not yet accepted. -/
structure Applying where
  slot : Nat
  column : Nat
  bias : Nat
  pixel : Option (Pixel × Waiting)
  deriving DecidableEq, Repr

/-- The pixel pipeline: the 512 bias states, bank 0's first, and the row APPLYING. -/
structure Pipeline where
  bias : List Bias
  applying : Option Applying
  deriving DecidableEq, Repr

/-! ### Merge buffer -/

/-- A sky cell record (R89, Table 12-13); the flags byte keeps its two spare bits (R92). -/
structure CellRecord where
  sum : Int
  hits : Nat
  flags : BitVec 8
  tag : Nat
  deriving DecidableEq, Repr

/-- The empty cell record (R151). -/
def CellRecord.empty : CellRecord := ⟨0, 0, 0#8, 0⟩

/-- Merge entry states (R93). -/
inductive EntryState where
  | filling | clean | dirty | writing
  deriving DecidableEq, Repr

/-- A held merge entry (R93). `fillAsked` tells whether a FILLING entry's read has been asked (R97). -/
structure Entry where
  addr : Nat
  product : Nat
  record : CellRecord
  state : EntryState
  fillAsked : Bool
  writeAsked : Bool
  writeOutstanding : Bool
  deriving DecidableEq, Repr

/-- Who asked for a flush (R103). -/
inductive FlushFor where
  | drain (bank : Nat)
  | freeze (product : Nat)
  | restart
  deriving DecidableEq, Repr

/-- An entry of a flush's set: settled at the completion of a write, once `granted` that write (R103). -/
structure FlushMember where
  entry : Nat
  granted : Bool
  settled : Bool
  deriving DecidableEq, Repr

/-- A flush in progress with its set; an entry dropped is settled and no longer listed (R103). -/
structure Flush where
  asker : FlushFor
  members : List FlushMember
  deriving DecidableEq, Repr

/-- The merge buffer. -/
structure MergeBuffer where
  entries : List (Option Entry)
  order : List Nat
  flushes : List Flush
  overwritten : Nat
  deriving DecidableEq, Repr

/-! ### Exposures -/

/-- Ring states (R118). -/
inductive RingState where
  | pending | active | finished
  deriving DecidableEq, Repr

/-- An outstanding descriptor (R118): its abort mark holds the tag the search found (R134); `due` tells that
its rejection's report is due or being written (R125). -/
structure RingEntry where
  number : Nat
  state : RingState
  mark : Option Nat
  due : Bool
  deriving DecidableEq, Repr

/-- Record states (section 7.3). -/
inductive RecordState where
  | active | draining
  deriving DecidableEq, Repr

/-- End statuses an active record can take (section 7.3). -/
inductive EndStatus where
  | complete | timedOut | aborted
  deriving DecidableEq, Repr

/-- Exclusion reasons (R124). -/
inductive Exclusion where
  | quarantined | withdrawn | notSelected
  deriving DecidableEq, Repr

/-- Rejection reasons (R123, R125). -/
inductive Rejection where
  | badDescriptor | notOpen | tagInUse | range | noSegments | abortedBeforeActive
  deriving DecidableEq, Repr

/-- Fault kinds (Table 12-10). -/
inductive FaultKind where
  | shortRow | gappedRow | outOfOrder | lostBeat | partialBeat | duplicateRow | calFault | cellLost
  deriving DecidableEq, Repr

/-- The first-fault record (R38). -/
structure FirstFault where
  kind : FaultKind
  segment : Nat
  row : Nat
  column : Nat
  deriving DecidableEq, Repr

/-- An included tile with its per-tile counters (section 7.3). -/
structure TileCount where
  tile : Nat
  saturated : Nat
  rejected : Nat
  faults : Nat
  deriving DecidableEq, Repr

/-- The eight orientations (R80). -/
inductive Orientation where
  | ident | flipX | flipY | rot180 | transpose | rot90 | rot270 | antiTranspose
  deriving DecidableEq, Repr

/-- One entry of a placement map (R85). -/
structure PlacedSegment where
  segment : Nat
  orientation : Orientation
  u0 : Int
  v0 : Int
  deriving DecidableEq, Repr

/-- A placement map (R85). -/
structure PlacementMap where
  segments : List PlacedSegment
  bin : Nat
  width : Nat
  height : Nat
  base : Nat
  deriving DecidableEq, Repr

/-- The counters of a record (R127). -/
structure Counters where
  presented : Nat
  applied : Nat
  rejected : Nat
  saturated : Nat
  dead : Nat
  offGrid : Nat
  full : Nat
  cellsLost : Nat
  excludedBeats : Nat
  faultTotal : Nat
  deriving DecidableEq, Repr

/-- All counters 0 (R126). -/
def Counters.zero : Counters := ⟨0, 0, 0, 0, 0, 0, 0, 0, 0, 0⟩

/-- An active exposure record (section 7.3). The row map lists the rows done, (segment, row). -/
structure ExposureRecord where
  state : RecordState
  endStatus : Option EndStatus
  number : Nat
  tag : Nat
  product : Nat
  bank : Nat
  exposureTime : Nat
  transparency : Nat
  du : Int
  dv : Int
  capture : Bool
  limit : Nat
  elapsed : Nat
  included : List TileCount
  excluded : List (Nat × Exclusion)
  factors : List (Nat × Nat)
  map : PlacementMap
  rowMap : List (Nat × Nat)
  counters : Counters
  firstFault : Option FirstFault
  deriving DecidableEq, Repr

/-- The activation read in progress (R121); `discard` tells that a RESTART was taken while it ran, so that its copy
is discarded at its end (R139). -/
structure ActivationRead where
  number : Nat
  asked : Nat
  discard : Bool
  deriving DecidableEq, Repr

/-- The abort search in progress (R132): the descriptors passed over, the one whose read is next or under
way, and whether that read has been asked. -/
structure Search where
  examined : List Nat
  current : Nat
  asked : Bool
  deriving DecidableEq, Repr

/-- What a due report reports (R137): the record that holds a bank, or a rejection (R125). -/
inductive ReportOf where
  | ended (bank : Nat)
  | rejected (tag product bank : Nat) (reason : Rejection) (excluded : List (Nat × Exclusion))
  deriving DecidableEq, Repr

/-- A report due (R137). -/
structure ReportDue where
  number : Nat
  source : ReportOf
  deriving DecidableEq, Repr

/-- The report being written (R137). -/
structure ReportWrite where
  due : ReportDue
  sequence : Nat
  units : List Word
  asked : Nat
  deriving DecidableEq, Repr

/-- The exposure controller's pieces of port work (R132). -/
inductive ExpoTask where
  | activation | search | report
  deriving DecidableEq, Repr

/-- The exposure controller. -/
structure ExposureCtl where
  ring : List RingEntry
  accepted : Nat
  consume : Nat
  reportSeq : Nat
  records : List ExposureRecord
  activation : Option ActivationRead
  waitBank : Bool
  waitProduct : Option Nat
  search : Option Search
  due : List ReportDue
  report : Option ReportWrite
  tasks : List ExpoTask
  deriving DecidableEq, Repr

/-! ### Products and the region engine -/

/-- Product states (section 8.1). -/
inductive ProductState where
  | empty | clearing | opened | frozen | rendering
  deriving DecidableEq, Repr

/-- Transition marks (section 8.1). -/
inductive Mark where
  | none | freezing | discarding
  deriving DecidableEq, Repr

/-- A product's state record (R142). -/
structure Product where
  state : ProductState
  mark : Mark
  deriving DecidableEq, Repr

/-- Job kinds (R150). -/
inductive JobKind where
  | clear | render
  deriving DecidableEq, Repr

/-- Why a job is halted (R158). -/
inductive HaltCause where
  | request | discard | restart
  deriving DecidableEq, Repr

/-- The job record (section 8.5); `kind` is none while IDLE. `values` holds the output beat being built, by
position, `outUnit` the unit of the output region it belongs to. -/
structure Engine where
  kind : Option JobKind
  product : Nat
  total : Nat
  done : Nat
  next : Nat
  base : Nat
  rs : Nat
  outBase : Nat
  outUnit : Nat
  values : List (Nat × BitVec 16)
  halting : Option HaltCause
  deriving DecidableEq, Repr

/-- The product controller and the region engine. -/
structure ProductCtl where
  products : List Product
  engine : Engine
  deriving DecidableEq, Repr

/-! ### The operating plan -/

/-- An installed tile entry (R7). -/
structure TileEntry where
  segments : Nat
  withdrawn : Bool
  quarantine : Bool
  zeroBase : Nat
  darkBase : Nat
  flatBase : Nat
  pitch : Nat
  stride : Nat
  deriving DecidableEq, Repr

/-- An installed segment entry (R8, R20). -/
structure SegmentEntry where
  tile : Nat
  index : Nat
  width : Nat
  overscan : Nat
  rows : Nat
  x0 : Int
  y0 : Int
  orientation : Orientation
  gain : Nat
  weight : Nat
  fixedBias : Nat
  satLevel : Nat
  deriving DecidableEq, Repr

/-- An installed product entry (R9, R20); base 0 is undefined. -/
structure ProductEntry where
  base : Nat
  width : Nat
  height : Nat
  bin : Nat
  px0 : Int
  py0 : Int
  clipMin : Nat
  clipFloor : Nat
  clipShift : Nat
  rs : Nat
  viewBase : Nat
  outBase : Nat
  deriving DecidableEq, Repr

/-- The plan in force (R6 to R9). -/
structure Plan where
  bank0 : Nat
  bank1 : Nat
  holdLimit : Nat
  satThreshold : Nat
  rejThreshold : Nat
  faultThreshold : Nat
  tiles : List TileEntry
  segments : List SegmentEntry
  products : List ProductEntry
  deriving DecidableEq, Repr

/-- Reply and commit outcomes (section 12.5). -/
inductive ReplyOutcome where
  | done | accepted | commitPending | busy | badState | badArgument | notFound | noPlan | unknownKind
  | marker | generation | check | changed | memory | range | overlap | productInUse
  deriving DecidableEq, Repr

/-- The table of a detail (Table 12-9). -/
inductive DetailTable where
  | none | request | header | tile | segment | product | region
  deriving DecidableEq, Repr

/-- A detail (Table 12-9). -/
structure Detail where
  table : DetailTable
  entry : Nat
  field : Nat
  state : Nat
  value : Nat
  deriving DecidableEq, Repr

/-- The all-zero detail. -/
def Detail.zero : Detail := ⟨.none, 0, 0, 0, 0⟩

/-- A load in progress (R12, R13); `immediate` tells that a request in hand waits for its outcome (R22). -/
structure Load where
  asked : Nat
  got : List (Nat × Word)
  firstBad : Option Nat
  changed : Bool
  immediate : Bool
  deriving DecidableEq, Repr

/-- The plan loader. -/
structure Loader where
  plan : Option Plan
  generation : Nat
  pendingMark : Bool
  argument : BitVec 32
  complement : BitVec 32
  load : Option Load
  outcome : Option ReplyOutcome
  detail : Detail
  deriving DecidableEq, Repr

/-! ### The notice unit -/

/-- Health states (R192). -/
inductive HealthState where
  | normal | warned | quarantined
  deriving DecidableEq, Repr

/-- A tile's health record (section 11.1). -/
structure Health where
  state : HealthState
  saturated : Nat
  rejected : Nat
  faults : Nat
  deriving DecidableEq, Repr

/-- A reply handed to the notice unit (R179). -/
structure Reply where
  sequence : Nat
  kind : Nat
  outcome : ReplyOutcome
  detail : Detail
  deriving DecidableEq, Repr

/-- A reply being written (R198). -/
structure ReplyWrite where
  units : List Word
  asked : Nat
  deriving DecidableEq, Repr

/-- A status block write in progress (R198): the snapshot, the causes it publishes, and whether they still
latch when it completes (R202). -/
structure StatusWrite where
  units : List Word
  asked : Nat
  causes : BitVec 9
  publishes : Bool
  deriving DecidableEq, Repr

/-- The notice unit (section 11.3). Cause sets have one bit per cause (Table 12-10). -/
structure Notice where
  latched : BitVec 9
  pending : BitVec 9
  mask : BitVec 9
  line : Bool
  wanted : Bool
  status : Option StatusWrite
  replyWaiting : Option Reply
  reply : Option ReplyWrite
  statusSeq : Nat
  tiles : List Health
  deriving DecidableEq, Repr

/-! ### The frame store port -/

/-- What an access of the port is for (section 10.2). -/
inductive Job where
  | busRead (b : BusBeat)
  /-- `ready` tells that the beat has been given ready before its store was asked (R40, R41, R42). -/
  | busWrite (b : BusBeat) (ready : Bool)
  | viewRead (v : ViewRead)
  | recordRead (k : Nat)
  | calRead (slot : Nat) (frame : Frame) (beat : Nat)
  | calDiscard
  | fill
  | writeBack (entry : Nat)
  | statusUnit (k : Nat)
  | replyUnit (k : Nat)
  | descriptorRead (k : Nat)
  | searchRead (number : Nat)
  | reportUnit (k : Nat)
  | planRead (k : Nat)
  | clearWrite
  | renderRead (cell : Nat)
  | renderWrite (values : Nat)
  deriving DecidableEq, Repr

/-- The bytes a write stores. -/
structure WriteData where
  enables : BitVec 8
  data : Word
  deriving DecidableEq, Repr

/-- An ask (R182): a write has its data, a read has none. -/
structure Ask where
  job : Job
  unit : Nat
  write : Option WriteData
  deriving DecidableEq, Repr

/-- What a granted access carries: a read its data and condition, a write what the unit will hold and the
condition its own read found, if it reads (R186, R187). -/
inductive AccessKind where
  | read (data : Word) (found : EccCondition)
  | write (after : StoredUnit) (found : Option EccCondition)
  deriving DecidableEq, Repr

/-- An access in flight (R186). -/
structure Access where
  job : Job
  unit : Nat
  kind : AccessKind
  deriving DecidableEq, Repr

/-- The frame store port. -/
structure Port where
  asks : List Ask
  inFlight : List Access
  fairness : Nat
  hold : Bool
  corrected : Nat
  uncorrectable : Nat
  deriving DecidableEq, Repr

/-! ### The whole part -/

/-- The part. `pending` is the queue of commands and `freeCount` the counter that free choices are numbered
by; both are the model's own (log 1, log 6, log 36). -/
structure State where
  pending : List Instr
  inReset : Bool
  straps : Straps
  part : PartState
  mem : Memory
  bus : BusFront
  capture : Capture
  fetch : List Fetch
  pipe : Pipeline
  merge : MergeBuffer
  expo : ExposureCtl
  prod : ProductCtl
  loader : Loader
  notice : Notice
  port : Port
  freeCount : Nat
  deriving DecidableEq, Repr

/-! ### Reset values, block by block -/

/-- The bus front at hardware reset (R180, R177, R161). -/
def BusFront.initial : BusFront :=
  { lock := none, lockWaiters := [], stalled := [], heldCells := [], views := [], inHand := none,
    restart := none, requestsLost := 0, protectCount := 0, responses := [] }

/-- The row capture unit at hardware reset (R48, R26). -/
def Capture.initial : Capture :=
  { slots := List.replicate Config.slotCount Slot.blank, ready := [], held := [],
    banks := [⟨false, false⟩, ⟨false, false⟩], stray := 0, unclaimed := 0, late := 0 }

/-- The pixel pipeline at hardware reset (R62, R78). -/
def Pipeline.initial : Pipeline :=
  { bias := List.replicate 512 ⟨false, 0⟩, applying := none }

/-- The merge buffer at hardware reset (R116). -/
def MergeBuffer.initial : MergeBuffer :=
  { entries := List.replicate Config.entryCount none, order := [], flushes := [], overwritten := 0 }

/-- The exposure controller at hardware reset (R140). -/
def ExposureCtl.initial : ExposureCtl :=
  { ring := [], accepted := 0, consume := 0, reportSeq := 0, records := [], activation := none,
    waitBank := false, waitProduct := none, search := none, due := [], report := none, tasks := [] }

/-- The region engine at hardware reset: IDLE, cells done 0 and cells total 0 (R150, R168). DESIGN CHOICE: the other fields
of the job record, which the spec gives no reset value, are 0, empty and clear (log 45). -/
def Engine.initial : Engine :=
  { kind := none, product := 0, total := 0, done := 0, next := 0, base := 0, rs := 0, outBase := 0,
    outUnit := 0, values := [], halting := none }

/-- The products at hardware reset (R142, R168). -/
def ProductCtl.initial : ProductCtl :=
  { products := List.replicate 4 ⟨.empty, .none⟩, engine := Engine.initial }

/-- The plan loader at hardware reset (R2, R23). -/
def Loader.initial : Loader :=
  { plan := none, generation := 0, pendingMark := false, argument := 0#32, complement := 0#32,
    load := none, outcome := none, detail := Detail.zero }

/-- The notice unit at hardware reset (R192, R200, R202). -/
def Notice.initial : Notice :=
  { latched := 0#9, pending := 0#9, mask := 0x1FF#9, line := false, wanted := false, status := none,
    replyWaiting := none, reply := none, statusSeq := 0,
    tiles := List.replicate 64 ⟨.normal, 0, 0, 0⟩ }

/-- The port at hardware reset (R191). -/
def Port.initial : Port :=
  { asks := [], inFlight := [], fairness := 0, hold := false, corrected := 0, uncorrectable := 0 }

/-- Memory with nothing listed. -/
def Memory.initial : Memory := ⟨[], []⟩

/-- The part right after hardware reset has been released, with the straps at the values of log 2 and the
one status block write of the end of reset asked for (R2, R202). -/
def State.reset : State :=
  { pending := [], inReset := false, straps := ⟨false, 0#2, 0#2⟩, part := .unplanned,
    mem := Memory.initial, bus := BusFront.initial, capture := Capture.initial, fetch := [],
    pipe := Pipeline.initial, merge := MergeBuffer.initial, expo := ExposureCtl.initial,
    prod := ProductCtl.initial, loader := Loader.initial,
    notice := { Notice.initial with wanted := true }, port := Port.initial, freeCount := 0 }

end Sys2Proof.Machine
end

