-- ==== Sys2Proof/Machine/Ops.lean ====
section
/-! DEFINITION. The shared operations over State: the update of each block, the frame store, bus responses,
notice causes, counts, replies, and the asks and accesses of the frame store port. -/

namespace Sys2Proof.Machine

/-! ### One update per block -/

def State.onBus (f : BusFront → BusFront) (s : State) : State := { s with bus := f s.bus }
def State.onCapture (f : Capture → Capture) (s : State) : State := { s with capture := f s.capture }
def State.onPipe (f : Pipeline → Pipeline) (s : State) : State := { s with pipe := f s.pipe }
def State.onMerge (f : MergeBuffer → MergeBuffer) (s : State) : State := { s with merge := f s.merge }
def State.onExpo (f : ExposureCtl → ExposureCtl) (s : State) : State := { s with expo := f s.expo }
def State.onProd (f : ProductCtl → ProductCtl) (s : State) : State := { s with prod := f s.prod }
def State.onLoader (f : Loader → Loader) (s : State) : State := { s with loader := f s.loader }
def State.onNotice (f : Notice → Notice) (s : State) : State := { s with notice := f s.notice }
def State.onPort (f : Port → Port) (s : State) : State := { s with port := f s.port }
def State.setFetch (l : List Fetch) (s : State) : State := { s with fetch := l }
def State.setMem (m : Memory) (s : State) : State := { s with mem := m }

/-! ### Sorted lists of keys and values with a default -/

/-- The value at a key, `d` for a key not listed. -/
def assocGet {α : Type} (d : α) (k : Nat) : List (Nat × α) → α
  | [] => d
  | (k', v) :: rest => if k = k' then v else assocGet d k rest

/-- Sets the value at a key, keeping the keys rising and the default unlisted. -/
def assocSet {α : Type} [DecidableEq α] (d : α) (k : Nat) (v : α) : List (Nat × α) → List (Nat × α)
  | [] => if v = d then [] else [(k, v)]
  | (k', v') :: rest =>
    if k < k' then (if v = d then (k', v') :: rest else (k, v) :: (k', v') :: rest)
    else if k = k' then (if v = d then rest else (k, v) :: rest)
    else (k', v') :: assocSet d k v rest

/-- The canonical form: keys strictly rising above `lo`, no entry equal to the default. -/
def assocWfAbove {α : Type} [DecidableEq α] (d : α) (lo : Nat) : List (Nat × α) → Bool
  | [] => true
  | (k, v) :: rest => decide (lo ≤ k) && decide (v ≠ d) && assocWfAbove d (k + 1) rest

/-! ### The frame store (R181, R187) -/

/-- The canonical form of memory. -/
def Memory.wf (m : Memory) : Bool :=
  assocWfAbove (0#8) 0 m.cells && assocWfAbove EccCondition.correct 0 m.flaws

/-- One byte; a byte not listed reads 0 (DESIGN CHOICE, log 3, unsafe). -/
def Memory.readByte (m : Memory) (a : Nat) : Byte := assocGet (0#8) a m.cells

/-- The condition of the unit at byte address `u`; a unit not listed is correct (DESIGN CHOICE, log 3). -/
def Memory.condition (m : Memory) (u : Nat) : EccCondition := assocGet .correct u m.flaws

def Memory.writeByte (m : Memory) (a : Nat) (b : Byte) : Memory :=
  { m with cells := assocSet (0#8) a b m.cells }

/-- The eight bytes from `u`, byte 0 at the lowest address. -/
def Memory.readWord (m : Memory) (u : Nat) : Word := Word.ofBytes fun j => m.readByte (u + j)

/-- Stores the eight bytes of a unit. -/
def Memory.writeWord (m : Memory) (u : Nat) (w : Word) : Memory :=
  (List.range 8).foldl (fun m j => m.writeByte (u + j) (w.byte j)) m

/-- The unit at byte address `u` (R181). -/
def Memory.readUnit (m : Memory) (u : Nat) : StoredUnit := ⟨m.readWord u, m.condition u⟩

/-- Stores a unit whole, data and check bits (R186). -/
def Memory.writeUnit (m : Memory) (u : Nat) (v : StoredUnit) : Memory :=
  { m.writeWord u v.data with flaws := assocSet .correct u v.condition m.flaws }

/-- The enabled bytes of `new` over those of `old`. -/
def mergeBytes (enables : BitVec 8) (new old : Word) : Word :=
  Word.ofBytes fun j => if enables.getLsbD j then new.byte j else old.byte j

/-- R187: what a write makes of a unit, and the condition its own read found when it is a partial write.
With no byte enabled the unit stays as it is and nothing is read (DESIGN CHOICE, log 10). -/
def writeResult (old : StoredUnit) (w : WriteData) : StoredUnit × Option EccCondition :=
  if w.enables = 0xFF#8 then (⟨w.data, .correct⟩, none)
  else if w.enables = 0#8 then (old, none)
  else
    let merged := mergeBytes w.enables w.data old.data
    match old.condition with
    | .correct => (⟨merged, .correct⟩, some .correct)
    | .corrected => (⟨merged, .correct⟩, some .corrected)
    | .uncorrectable => (⟨merged, .uncorrectable⟩, some .uncorrectable)

/-! ### Little-endian records (R203, R204) -/

/-- The `width` bytes of a number, lowest first. -/
def leBytes (width n : Nat) : List Byte := (List.range width).map fun i => BitVec.ofNat 8 (n / 256 ^ i)

/-- The two's complement bytes of a number. -/
def leSigned (width : Nat) (z : Int) : List Byte := leBytes width (z % (256 ^ width : Nat)).toNat

/-- The unsigned field of `width` bytes at `off` of a record. -/
def field (record : List Byte) (off width : Nat) : Nat :=
  ((record.drop off).take width).foldr (fun b n => b.toNat + 256 * n) 0

/-- The signed field of `width` bytes at `off` of a record. -/
def signedField (record : List Byte) (off width : Nat) : Int :=
  let n := field record off width
  if 2 * n ≥ 256 ^ width then (n : Int) - (256 ^ width : Nat) else n

/-- The bytes of a list of units. -/
def bytesOf (units : List Word) : List Byte :=
  units.flatMap fun w => (List.range 8).map fun j => w.byte j

/-- The `n` units that hold a record's bytes, filled up with 0. -/
def unitsOf (n : Nat) (record : List Byte) : List Word :=
  (List.range n).map fun k => Word.ofBytes fun j => record.getD (8 * k + j) 0#8

/-- The `n` units read from beats delivered in any order, by beat number; a beat not delivered reads 0. -/
def gathered (n : Nat) (got : List (Nat × Word)) : List Word :=
  (List.range n).map fun k => assocGet 0#64 k got

/-! ### Addresses -/

/-- The base of the plan area (R1). -/
def State.planBase (s : State) : Nat := Config.planBase s.straps.planSel

/-- The fitted size in bytes (R1). -/
def State.fitted (s : State) : Nat := Config.fitted s.straps.memSize

/-- The unit a beat addresses (R169). -/
def BusBeat.unit (b : BusBeat) : Nat := b.addr.toNat / 8 * 8 + 8 * b.index

/-! ### Bus responses -/

/-- A beat completes on the bus. -/
def State.respond (s : State) (b : BusBeat) (a : Answer) : State :=
  s.onBus fun f => { f with responses := f.responses ++ [⟨b.master, b.unit, a⟩] }

/-- The lock ends, and with it the port's hold (R173, R185). The beats held on it are taken at the end of the
step (`State.settle`). -/
def State.endLock (s : State) : State :=
  (s.onBus fun f => { f with lock := none }).onPort fun p => { p with hold := false }

/-- A write beat that is not stored completes on the bus; the pair's write ends its lock there (R173). -/
def State.finishWrite (b : BusBeat) (s : State) : State :=
  if b.pair then (s.respond b .done).endLock else s.respond b .done

/-! ### Notice causes (R196, R198) -/

/-- The nine causes, by their bits (Table 12-10). -/
inductive Cause where
  | exposureDone | requestDone | planDone | jobDone | protect | ringFault | requestLost | memoryFault
  | tileAttention
  deriving DecidableEq, Repr

def Cause.bit : Cause → BitVec 9
  | .exposureDone => 0x001#9
  | .requestDone => 0x002#9
  | .planDone => 0x004#9
  | .jobDone => 0x008#9
  | .protect => 0x010#9
  | .ringFault => 0x020#9
  | .requestLost => 0x040#9
  | .memoryFault => 0x080#9
  | .tileAttention => 0x100#9

/-- A cause is raised: it becomes pending and a status block write is wanted (R198). In BYPASS the notice
unit raises no cause (R196). -/
def State.raise (c : Cause) (s : State) : State :=
  if s.part = .bypass then s
  else s.onNotice fun n => { n with pending := n.pending ||| c.bit, wanted := true }

/-- A status block write is asked for without a cause (R193, R199, R200). -/
def State.wantStatus (s : State) : State := s.onNotice fun n => { n with wanted := true }

/-- NOTICE is asserted exactly while some latched cause is unmasked (R198). -/
def noticeOf (latched mask : BitVec 9) : Bool := decide (latched &&& ~~~mask ≠ 0#9)

/-- NOTICE follows the latched set and the mask (R198). -/
def Notice.evaluate (n : Notice) : Notice := { n with line := noticeOf n.latched n.mask }

/-- The tile attention condition (R197). -/
def Notice.attention (n : Notice) : Bool := n.tiles.any fun h => decide (h.state ≠ .normal)

/-- What an access found in a unit it read is counted (R188, R190): not at all in BYPASS. -/
def State.countFound (found : EccCondition) (s : State) : State :=
  if s.part = .bypass then s
  else match found with
    | .correct => s
    | .corrected => s.onPort fun p => { p with corrected := satAdd p.corrected 1 }
    | .uncorrectable =>
      (s.onPort fun p => { p with uncorrectable := satAdd p.uncorrectable 1 }).raise .memoryFault

/-! ### Requests and replies (R178, R179) -/

/-- The owner hands outcome and detail to the notice unit; the request stays in hand until the reply is
written (R179). -/
def State.reply (outcome : ReplyOutcome) (detail : Detail) (s : State) : State :=
  match s.bus.inHand with
  | none => s
  | some q =>
    (s.onBus fun f => { f with inHand := some { q with stage := .replying } }).onNotice fun n =>
      { n with replyWaiting := some ⟨q.sequence, q.kind, outcome, detail⟩ }

/-- The request kind codes (Table 12-8). -/
def kindCommitPlan : Nat := 1
def kindOpenProduct : Nat := 2
def kindFreezeProduct : Nat := 3
def kindThawProduct : Nat := 4
def kindRenderProduct : Nat := 5
def kindDiscardProduct : Nat := 6
def kindHaltJob : Nat := 7
def kindAbortExposure : Nat := 8
def kindReleaseTile : Nat := 9
def kindRestart : Nat := 10

/-- A RESTART is in hand at the bus front (R120). -/
def State.restartInHand (s : State) : Bool :=
  match s.bus.inHand with
  | some q => decide (q.kind = kindRestart)
  | none => false

/-- The latched record of a request of `kind` that its owner has been given and has not yet taken. -/
def State.dispatched (kind : Nat) (s : State) : Option RequestRecord :=
  match s.bus.inHand with
  | some q => if q.kind = kind ∧ q.stage = .dispatched then some q.record else none
  | none => none

/-- The owner has taken the request and keeps it in hand; `taken` is the product's state code (R143). -/
def State.keepInHand (taken : Nat) (s : State) : State :=
  s.onBus fun f => { f with inHand := f.inHand.map fun q => { q with stage := .working taken } }

/-! ### Asks of the port (R182) -/

def State.ask (a : Ask) (s : State) : State := s.onPort fun p => { p with asks := p.asks ++ [a] }

/-- Withdraws the asks not yet granted that `p` picks; the order of the others is kept (R182). -/
def State.withdraw (pick : Job → Bool) (s : State) : State :=
  s.onPort fun p => { p with asks := p.asks.filter fun a => !pick a.job }

/-- Some ask of the wanted kind waits. -/
def State.asking (s : State) (pick : Job → Bool) : Bool := s.port.asks.any fun a => pick a.job

/-- Some access of the wanted kind is in flight. -/
def State.flying (s : State) (pick : Job → Bool) : Bool := s.port.inFlight.any fun a => pick a.job

/-- The bus front asks for a read of the beat's unit (R170). -/
def State.askRead (b : BusBeat) (s : State) : State := s.ask ⟨.busRead b, b.unit, none⟩

/-- The bus front asks for the store of a beat with its own byte enables (R170). -/
def State.askStore (ready : Bool) (b : BusBeat) (s : State) : State :=
  s.ask ⟨.busWrite b ready, b.unit, some ⟨b.enables, b.data⟩⟩

/-! ### Accesses in flight (R186) -/

def Access.isWrite (a : Access) : Bool :=
  match a.kind with
  | .read _ _ => false
  | .write _ _ => true

/-- What a unit holds in the order of grants: the last granted write of it, else what is stored. -/
def unitAfter (stored : StoredUnit) (u : Nat) : List Access → StoredUnit
  | [] => stored
  | a :: rest =>
    match a.kind with
    | .write after _ => unitAfter (if a.unit = u then after else stored) u rest
    | .read _ _ => unitAfter stored u rest

/-- The unit as an access granted now finds it (R186). -/
def State.unitNow (s : State) (u : Nat) : StoredUnit := unitAfter (s.mem.readUnit u) u s.port.inFlight

/-- An access of the list that `pick` accepts, the `n`-th of them: those before it, itself, those after. -/
def pickNth (pick : Access → Bool) : Nat → List Access → Option (List Access × Access × List Access)
  | _, [] => none
  | n, a :: rest =>
    if pick a then
      match n with
      | 0 => some ([], a, rest)
      | n + 1 => (pickNth pick n rest).map fun r => (a :: r.1, r.2)
    else (pickNth pick n rest).map fun r => (a :: r.1, r.2)

/-- Accesses whose own end no row of the table reports: the writes of a report's units, and of those of a reply or
a status block before their last (log 11), and the reads of an activation read's beats (log 14). -/
def Job.unreported : Job → Bool
  | .reportUnit _ | .statusUnit _ | .replyUnit _ | .descriptorRead _ => true
  | _ => false

/-- An access cannot end before an earlier granted access of its unit whose own end is still to come (R186). -/
def blockedBy (earlier : List Access) (u : Nat) : Bool :=
  earlier.any fun a => decide (a.unit = u) && !a.job.unreported

/-- An access that stores to the unit. -/
def Access.writesTo (u : Nat) (a : Access) : Bool := a.isWrite && decide (a.unit = u)

/-- The `n`-th write in flight that `pick` accepts completes at the port: the unit holds its bytes and check
bits, and earlier unreported writes of the same unit have completed before it. -/
def State.landNth (pick : Job → Bool) (n : Nat) (s : State) : Option (Access × State) :=
  match pickNth (fun a => a.isWrite && pick a.job) n s.port.inFlight with
  | none => none
  | some (before, a, after) =>
    match a.kind with
    | .read _ _ => none
    | .write unit found =>
      if blockedBy before a.unit then none
      else
        let kept := before.filter fun e => !e.writesTo a.unit
        some (a, ((s.setMem (s.mem.writeUnit a.unit unit)).onPort fun p =>
          { p with inFlight := kept ++ after }).countFound (found.getD .correct))

/-- The `n`-th read in flight that `pick` accepts is delivered and counted (R188), once no earlier access of its
unit is still to end (R186). -/
def State.deliverNth (pick : Job → Bool) (n : Nat) (s : State) :
    Option (Access × Word × EccCondition × State) :=
  match pickNth (fun a => !a.isWrite && pick a.job) n s.port.inFlight with
  | none => none
  | some (before, a, after) =>
    match a.kind with
    | .write _ _ => none
    | .read data found =>
      if blockedBy before a.unit then none
      else some (a, data, found, (s.onPort fun p => { p with inFlight := before ++ after }).countFound found)

/-- R186, log 11: the unreported writes of a unit granted before the `n`-th read in flight that `pick` accepts, a read
of that unit, complete before it is delivered. -/
def State.landBefore (pick : Job → Bool) (n : Nat) (s : State) : State :=
  match pickNth (fun a => !a.isWrite && pick a.job) n s.port.inFlight with
  | none => s
  | some (before, a, after) =>
    if blockedBy before a.unit || !(before.any fun e => e.writesTo a.unit) then s
    else (s.setMem (s.mem.writeUnit a.unit (unitAfter (s.mem.readUnit a.unit) a.unit before))).onPort fun p =>
      { p with inFlight := (before.filter fun e => !e.writesTo a.unit) ++ a :: after }

/-- Every write in flight that `pick` accepts completes, in the order of grants; `n` bounds how many. -/
def State.landAll (pick : Job → Bool) : Nat → State → State
  | 0, s => s
  | n + 1, s =>
    match s.landNth pick 0 with
    | none => s
    | some (_, t) => State.landAll pick n t

/-- None of the accesses in flight that `pick` accepts waits for an earlier access of its unit (R186). -/
def canEndAll (pick : Job → Bool) (earlier : List Access) : List Access → Bool
  | [] => true
  | a :: rest => !(pick a.job && blockedBy earlier a.unit) && canEndAll pick (earlier ++ [a]) rest

/-- Every read in flight that `pick` accepts is delivered: the deliveries, in the order of grants. -/
def State.deliverAll (pick : Job → Bool) (s : State) : List (Job × Word × EccCondition) × State :=
  let got := s.port.inFlight.filterMap fun a =>
    if pick a.job then
      match a.kind with
      | .read data found => some (a.job, data, found)
      | .write _ _ => none
    else none
  let rest := s.port.inFlight.filter fun a => !(pick a.job && !a.isWrite)
  (got, got.foldl (fun t d => t.countFound d.2.2) (s.onPort fun p => { p with inFlight := rest }))

/-! ### Records and slots by their keys -/

/-- The active exposure record that holds a bank (section 7.3: no two share one). -/
def State.recordOf (s : State) (bank : Nat) : Option ExposureRecord :=
  s.expo.records.find? fun r => decide (r.bank = bank)

/-- Changes the record that holds a bank. -/
def State.onRecord (bank : Nat) (f : ExposureRecord → ExposureRecord) (s : State) : State :=
  s.onExpo fun e => { e with records := e.records.map fun r => if r.bank = bank then f r else r }

/-- The slot of a number; a number beyond the slots reads FREE. -/
def State.slot (s : State) (i : Nat) : Slot := s.capture.slots.getD i Slot.blank

def State.setSlot (i : Nat) (v : Slot) (s : State) : State :=
  s.onCapture fun c => { c with slots := c.slots.set i v }

/-- The entry of a number, if it holds a cell. -/
def State.entry (s : State) (i : Nat) : Option Entry := s.merge.entries.getD i none

def State.setEntry (i : Nat) (v : Option Entry) (s : State) : State :=
  s.onMerge fun m => { m with entries := m.entries.set i v }

/-- The state record of a product (R142). -/
def State.product (s : State) (p : Nat) : Product := s.prod.products.getD p ⟨.empty, .none⟩

def State.setProduct (p : Nat) (v : Product) (s : State) : State :=
  s.onProd fun c => { c with products := c.products.set p v }

/-- The installed entry of a segment, if the plan in force has it. -/
def State.segment (s : State) (i : Nat) : Option SegmentEntry :=
  s.loader.plan.bind fun p => p.segments[i]?

/-- The installed entry of a tile, if the plan in force has it. -/
def State.tile (s : State) (i : Nat) : Option TileEntry := s.loader.plan.bind fun p => p.tiles[i]?

/-- The installed entry of a product that is defined in the plan in force (R9). -/
def State.productEntry (s : State) (i : Nat) : Option ProductEntry :=
  (s.loader.plan.bind fun p => p.products[i]?).filter fun e => decide (e.base ≠ 0)

/-- Cells of a product (R9). -/
def ProductEntry.cells (e : ProductEntry) : Nat := e.width * e.height

end Sys2Proof.Machine
end

