-- ==== Sys2Proof/Machine/Formats.lean ====
section
/-! DEFINITION. The code tables and the small memory-resident records of Chapter 12. -/

namespace Sys2Proof.Machine

/-! ### Codes (12.3, 12.5, 12.6) -/

def Orientation.ofCode : Nat → Option Orientation
  | 0 => some .ident
  | 1 => some .flipX
  | 2 => some .flipY
  | 3 => some .rot180
  | 4 => some .transpose
  | 5 => some .rot90
  | 6 => some .rot270
  | 7 => some .antiTranspose
  | _ => none

def ReplyOutcome.code : ReplyOutcome → Nat
  | .done => 0
  | .accepted => 1
  | .commitPending => 2
  | .busy => 3
  | .badState => 4
  | .badArgument => 5
  | .notFound => 6
  | .noPlan => 7
  | .unknownKind => 8
  | .marker => 16
  | .generation => 17
  | .check => 18
  | .changed => 19
  | .memory => 20
  | .range => 21
  | .overlap => 22
  | .productInUse => 23

/-- Last commit outcome, FFh for NONE (Table 12-10). -/
def lastOutcomeCode : Option ReplyOutcome → Nat
  | none => 0xFF
  | some o => o.code

def DetailTable.code : DetailTable → Nat
  | .none => 0
  | .request => 1
  | .header => 2
  | .tile => 3
  | .segment => 4
  | .product => 5
  | .region => 6

def EndStatus.code : EndStatus → Nat
  | .complete => 1
  | .timedOut => 2
  | .aborted => 3

/-- End status REJECTED (Table 12-10). -/
def rejectedCode : Nat := 4

def Rejection.code : Rejection → Nat
  | .badDescriptor => 1
  | .notOpen => 2
  | .tagInUse => 3
  | .range => 4
  | .noSegments => 5
  | .abortedBeforeActive => 6

def Exclusion.code : Exclusion → Nat
  | .quarantined => 1
  | .withdrawn => 2
  | .notSelected => 3

def FaultKind.code : FaultKind → Nat
  | .shortRow => 1
  | .gappedRow => 2
  | .outOfOrder => 3
  | .lostBeat => 4
  | .partialBeat => 5
  | .duplicateRow => 6
  | .calFault => 7
  | .cellLost => 8

def PartState.code : PartState → Nat
  | .bypass => 0
  | .unplanned => 1
  | .planned => 2

def ProductState.code : ProductState → Nat
  | .empty => 0
  | .clearing => 1
  | .opened => 2
  | .frozen => 3
  | .rendering => 4

def Mark.code : Mark → Nat
  | .none => 0
  | .freezing => 1
  | .discarding => 2

def HealthState.code : HealthState → Nat
  | .normal => 0
  | .warned => 1
  | .quarantined => 2

def jobCode : Option JobKind → Nat
  | none => 0
  | some .clear => 1
  | some .render => 2

/-! ### Sky cell records (Table 12-13) -/

def CellRecord.bytes (c : CellRecord) : List Byte :=
  leSigned 4 c.sum ++ leBytes 2 c.hits ++ [c.flags] ++ leBytes 1 c.tag

def CellRecord.word (c : CellRecord) : Word := Word.ofBytes fun j => c.bytes.getD j 0#8

def CellRecord.ofWord (w : Word) : CellRecord :=
  let b := bytesOf [w]
  { sum := signedField b 0 4, hits := field b 4 2, flags := w.byte 6, tag := field b 7 1 }

/-! ### Request record and reply slot (12.5) -/

def RequestRecord.ofUnits (w0 w1 : Word) : RequestRecord :=
  let b := bytesOf [w0, w1]
  { product := field b 0 1, tag := field b 1 1, tile := field b 2 1,
    argument := BitVec.ofNat 32 (field b 4 4), complement := BitVec.ofNat 32 (field b 8 4) }

/-- Codes of OPEN_PRODUCT's argument (Table 12-7). -/
def argumentKeep : BitVec 32 := 1#32
def argumentClear : BitVec 32 := 2#32

def Reply.bytes (r : Reply) : List Byte :=
  leBytes 2 r.sequence ++ leBytes 2 r.kind ++ leBytes 1 r.outcome.code ++ leBytes 1 r.detail.table.code ++
    leBytes 2 r.detail.entry ++ leBytes 2 r.detail.field ++ leBytes 1 r.detail.state ++ [0#8] ++
    leBytes 4 r.detail.value

/-! ### Exposure descriptors (Table 12-6) -/

structure Descriptor where
  marker : Nat
  tag : Nat
  product : Nat
  bank : Nat
  capture : Bool
  exposureTime : Nat
  transparency : Nat
  limit : Nat
  du : Int
  dv : Int
  count : Nat
  tiles : List Nat
  deriving DecidableEq, Repr

/-- The bank field is reduced to its lowest bit (R20, R122); only the first `count` bytes form the tile list. -/
def Descriptor.ofBytes (b : List Byte) : Descriptor :=
  { marker := field b 0x00 4, tag := field b 0x04 1, product := field b 0x05 1, bank := field b 0x06 1 % 2,
    capture := decide (field b 0x07 1 % 2 = 1), exposureTime := field b 0x08 4,
    transparency := field b 0x0C 2, limit := field b 0x0E 2, du := signedField b 0x10 4,
    dv := signedField b 0x14 4, count := field b 0x18 1,
    tiles := ((b.drop 0x20).take (min (field b 0x18 1) 64)).map fun x => x.toNat }

end Sys2Proof.Machine
end

