-- ==== Sys2Proof/Machine/Operands.lean ====
section
/-! DEFINITION. What a beat's address and byte enables mean: routing (R170), raw decode (R25), cell and view
positions (R84, R163), covered pixels (R33). -/

namespace Sys2Proof.Machine

/-- Where a beat's address falls (R170). -/
inductive Route where
  | beyond
  | ordinary
  | planArea
  | raw (bank : Nat)
  | cell (product : Nat)
  | view (product : Nat)
  deriving DecidableEq, Repr

def within (u base size : Nat) : Bool := decide (base ≤ u) && decide (u < base + size)

/-- The plan area holds the unit (R5). -/
def State.inPlanArea (s : State) (u : Nat) : Bool := within u s.planBase Config.planAreaSize

/-- The plan body holds the unit (R13, 12.2). -/
def State.inPlanBody (s : State) (u : Nat) : Bool := within u s.planBase Config.bodyBytes

/-- The base of a raw bank of the plan, 0 when absent (R6). -/
def Plan.bankBase (p : Plan) (bank : Nat) : Nat := if bank = 0 then p.bank0 else p.bank1

/-- The unit lies in the window of a defined bank (R6). -/
def Plan.inBank (p : Plan) (bank u : Nat) : Bool :=
  decide (p.bankBase bank ≠ 0) && within u (p.bankBase bank) Config.bankSize

/-- The unit lies in the accumulator region of a defined product (R9). -/
def ProductEntry.holdsCell (e : ProductEntry) (u : Nat) : Bool :=
  decide (e.base ≠ 0) && within u e.base (8 * e.cells)

/-- Bytes of a view region, rounded up to whole units (R163). -/
def ProductEntry.viewSize (e : ProductEntry) : Nat := (2 * e.cells + 7) / 8 * 8

/-- The unit lies in the view region of a defined product (R163). -/
def ProductEntry.holdsView (e : ProductEntry) (u : Nat) : Bool :=
  decide (e.base ≠ 0) && decide (e.viewBase ≠ 0) && within u e.viewBase e.viewSize

/-- R170, rows 5 to 8: the windows of a plan. -/
def Plan.route (p : Plan) (u : Nat) : Route :=
  if p.inBank 0 u then .raw 0
  else if p.inBank 1 u then .raw 1
  else match p.products.findIdx? fun e => e.holdsCell u with
    | some i => .cell i
    | none => match p.products.findIdx? fun e => e.holdsView u with
      | some i => .view i
      | none => .ordinary

/-- R170: the routing of a unit in the part state as it stands. -/
def State.route (s : State) (u : Nat) : Route :=
  if s.fitted ≤ u then .beyond
  else match s.part with
    | .bypass => .ordinary
    | .unplanned => if s.inPlanArea u then .planArea else .ordinary
    | .planned =>
      if s.inPlanArea u then .planArea
      else match s.loader.plan with
        | none => .ordinary
        | some p => p.route u

/-- The four values a raw address decodes to (R25). -/
structure RawPlace where
  segment : Nat
  row : Nat
  column : Nat
  deriving DecidableEq, Repr

/-- R25: segment, row and column of an offset from the bank base. -/
def rawPlace (offset : Nat) : RawPlace :=
  { segment := offset / Config.segmentSize,
    row := offset % Config.segmentSize / Config.rowSize,
    column := offset % Config.segmentSize % Config.rowSize / 2 }

/-- Both bytes of pixel `j` of the beat are enabled (R33). -/
def covered (enables : BitVec 8) (j : Nat) : Bool :=
  enables.getLsbD (2 * j) && enables.getLsbD (2 * j + 1)

/-- One byte of pixel `j` is enabled and the other not (R33). -/
def partlyCovered (enables : BitVec 8) (j : Nat) : Bool :=
  enables.getLsbD (2 * j) != enables.getLsbD (2 * j + 1)

/-- Some pixel of the beat is partly covered (R33). -/
def anyPartly (enables : BitVec 8) : Bool := (List.range 4).any (partlyCovered enables)

/-- Pixel `j` of a unit, low byte at the lower address (R25). -/
def pixelOf (data : Word) (j : Nat) : BitVec 16 := data.extractLsb' (16 * j) 16

/-- The covered pixels of a beat at a column, with their columns (R34). -/
def coveredPixels (column : Nat) (enables : BitVec 8) (data : Word) : List (Nat × BitVec 16) :=
  ((List.range 4).filter (covered enables)).map fun j => (column + j, pixelOf data j)

/-- How a beat's enables meet a control word, the low four bytes of its unit (R174). -/
inductive WordTouch where
  | whole | part | untouched
  deriving DecidableEq, Repr

def wordTouch (enables : BitVec 8) : WordTouch :=
  let low := enables.extractLsb' 0 4
  if low = 0xF#4 then .whole else if low = 0#4 then .untouched else .part

/-- The 32 bits of a control word (R174). -/
def controlValue (data : Word) : BitVec 32 := data.extractLsb' 0 32

end Sys2Proof.Machine
end

