-- ==== Sys2Proof/Machine/PlanCheck.lean ====
section
/-! DEFINITION. The plan body as read, the checks of a commit in their order, and the plan they install
(R14 to R20). -/

namespace Sys2Proof.Machine

/-! ### The body's records (12.3) -/

abbrev Body := List Byte

def tileAt (i : Nat) : Nat := 0x40 + 48 * i
def segmentAt (i : Nat) : Nat := 0xC40 + 32 * i
def productAt (i : Nat) : Nat := 0x2C40 + 64 * i

/-- A field of the header (Table 12-1). -/
def Body.header (b : Body) (off width : Nat) : Nat := field b off width
/-- A field of a tile entry (Table 12-2). -/
def Body.tile (b : Body) (i off width : Nat) : Nat := field b (tileAt i + off) width
/-- A field of a segment entry (Table 12-3). -/
def Body.segment (b : Body) (i off width : Nat) : Nat := field b (segmentAt i + off) width
def Body.segmentSigned (b : Body) (i off : Nat) : Int := signedField b (segmentAt i + off) 4
/-- A field of a product entry (Table 12-5). -/
def Body.product (b : Body) (i off width : Nat) : Nat := field b (productAt i + off) width
def Body.productSigned (b : Body) (i off : Nat) : Int := signedField b (productAt i + off) 4

def Body.tileCount (b : Body) : Nat := b.header 0x0C 2
def Body.segmentCount (b : Body) : Nat := b.header 0x0E 2

/-! ### The plan that would be installed (R7, R8, R9, R20) -/

def Body.tileEntry (b : Body) (i : Nat) : TileEntry :=
  { segments := b.tile i 0x00 1, withdrawn := decide (b.tile i 0x01 1 = 1),
    quarantine := decide (b.tile i 0x02 1 = 1), pitch := b.tile i 0x04 4, zeroBase := b.tile i 0x08 8,
    darkBase := b.tile i 0x10 8, flatBase := b.tile i 0x18 8, stride := b.tile i 0x20 4 }

/-- R20: the weight is masked and a sat_level of 0 is installed as 65535. -/
def Body.segmentEntry (b : Body) (i : Nat) : SegmentEntry :=
  { tile := b.segment i 0x00 1, index := b.segment i 0x01 1,
    orientation := (Orientation.ofCode (b.segment i 0x02 1)).getD .ident,
    weight := b.segment i 0x03 1 % 8, width := b.segment i 0x04 2, overscan := b.segment i 0x06 2,
    rows := b.segment i 0x08 2, gain := b.segment i 0x0A 2, fixedBias := b.segment i 0x0C 2,
    satLevel := if b.segment i 0x0E 2 = 0 then 65535 else b.segment i 0x0E 2,
    x0 := b.segmentSigned i 0x10, y0 := b.segmentSigned i 0x14 }

/-- An undefined product: its other fields are not installed (R9). -/
def ProductEntry.undefined : ProductEntry := ⟨0, 0, 0, 1, 0, 0, 0, 0, 0, 0, 0, 0⟩

/-- R9, R20: clip_shift and rs are masked. -/
def Body.productEntry (b : Body) (i : Nat) : ProductEntry :=
  if b.product i 0x00 8 = 0 then ProductEntry.undefined
  else
    { base := b.product i 0x00 8, viewBase := b.product i 0x08 8, outBase := b.product i 0x10 8,
      width := b.product i 0x18 2, height := b.product i 0x1A 2, bin := b.product i 0x1C 1,
      clipMin := b.product i 0x1D 1, clipShift := b.product i 0x1E 1 % 16, rs := b.product i 0x1F 1 % 8,
      clipFloor := b.product i 0x20 2, px0 := b.productSigned i 0x24, py0 := b.productSigned i 0x28 }

/-- R20: a hold limit of 0 is installed as 1. -/
def Body.plan (b : Body) : Plan :=
  { bank0 := b.header 0x10 8, bank1 := b.header 0x18 8, holdLimit := max 1 (b.header 0x20 1),
    satThreshold := b.header 0x24 4, rejThreshold := b.header 0x28 4, faultThreshold := b.header 0x2C 4,
    tiles := (List.range b.tileCount).map b.tileEntry,
    segments := (List.range b.segmentCount).map b.segmentEntry,
    products := (List.range 4).map b.productEntry }

/-! ### Check sum (R16) -/

/-- R16: the sum modulo 2^32 of the body's words, the check field taken as 0. -/
def Body.sum (b : Body) : Nat :=
  (((List.range (Config.bodyBytes / 4)).filter fun i => decide (i ≠ 2)).map fun i => field b (4 * i) 4).sum % 2 ^ 32

/-! ### RANGE (R17) -/

/-- A detail of a commit (R14): table, entry and field code. -/
def commitDetail (table : DetailTable) (entry fieldCode : Nat) : Detail := ⟨table, entry, fieldCode, 0, 0⟩

/-- The field code of the first condition of a list that fails; a field's code is its offset plus 1 (R203). -/
def firstFailing (conditions : List (Bool × Nat)) : Option Nat :=
  conditions.findSome? fun c => if c.1 then none else some (c.2 + 1)

def inRange (lo hi n : Nat) : Bool := decide (lo ≤ n) && decide (n ≤ hi)
def coordinate (z : Int) : Bool := decide (-1048576 ≤ z) && decide (z ≤ 1048575)
def multipleOf (m n : Nat) : Bool := decide (n % m = 0)

/-- R6, R17: the header's fields in their table's order, then the condition on both banks. -/
def Body.headerRange (b : Body) : Option Nat :=
  firstFailing [
    (inRange 1 64 b.tileCount, 0x0C),
    (inRange 1 256 b.segmentCount, 0x0E),
    (multipleOf Config.bankSize (b.header 0x10 8), 0x10),
    (multipleOf Config.bankSize (b.header 0x18 8), 0x18),
    (decide (b.header 0x10 8 ≠ 0) || decide (b.header 0x18 8 ≠ 0), 0x18)]

/-- R7, R17: the fields of a tile entry in their table's order. -/
def Body.tileRange (b : Body) (i : Nat) : Option Nat :=
  firstFailing [
    (inRange 1 16 (b.tile i 0x00 1), 0x00),
    (decide (b.tile i 0x01 1 ≤ 1), 0x01),
    (decide (b.tile i 0x02 1 ≤ 1), 0x02),
    (multipleOf 8 (b.tile i 0x08 8), 0x08),
    (multipleOf 8 (b.tile i 0x10 8), 0x10),
    (multipleOf 8 (b.tile i 0x18 8), 0x18),
    (multipleOf 8 (b.tile i 0x04 4), 0x04),
    (multipleOf 8 (b.tile i 0x20 4), 0x20)]

/-- R8: the tile index and index in the tile repeat an earlier entry. -/
def Body.repeats (b : Body) (i : Nat) : Bool :=
  (List.range i).any fun j =>
    decide (b.segment j 0x00 1 = b.segment i 0x00 1) && decide (b.segment j 0x01 1 = b.segment i 0x01 1)

/-- R8, R17: the fields of a segment entry in their table's order, then the conditions that join fields. -/
def Body.segmentRange (b : Body) (i : Nat) : Option Nat :=
  let a := b.segment i 0x04 2
  let k := b.segment i 0x06 2
  firstFailing [
    (decide (b.segment i 0x00 1 < b.tileCount), 0x00),
    (decide (b.segment i 0x01 1 < b.tile (b.segment i 0x00 1) 0x00 1), 0x01),
    (inRange 4 2048 a, 0x04),
    ([0, 4, 8, 16, 32].contains k, 0x06),
    (inRange 1 4096 (b.segment i 0x08 2), 0x08),
    (coordinate (b.segmentSigned i 0x10), 0x10),
    (coordinate (b.segmentSigned i 0x14), 0x14),
    (decide (b.segment i 0x02 1 < 8), 0x02),
    (decide (a + k ≤ 2048) && multipleOf 4 (a + k), 0x06),
    (!b.repeats i, 0x01)]

/-- The segment entries in use that name a tile (R8). -/
def Body.segmentsOf (b : Body) (tile : Nat) : List Nat :=
  (List.range b.segmentCount).filter fun j => decide (b.segment j 0x00 1 = tile)

/-- R8: the segment entries in use that name a tile reach its segment count. -/
def Body.tileFilled (b : Body) (i : Nat) : Option Nat :=
  firstFailing [(decide ((b.segmentsOf i).length = b.tile i 0x00 1), 0x00)]

/-- R7, R17: the row pitch is at least twice the widest segment of the tile. -/
def Body.pitchBound (b : Body) (i : Nat) : Option Nat :=
  firstFailing [((b.segmentsOf i).all fun j => decide (2 * b.segment j 0x04 2 ≤ b.tile i 0x04 4), 0x04)]

/-- R9, R17: the fields of a product entry in their table's order; an undefined one has its base alone checked. -/
def Body.productRange (b : Body) (i : Nat) : Option Nat :=
  if b.product i 0x00 8 = 0 then none
  else firstFailing [
    (multipleOf 0x1000 (b.product i 0x00 8), 0x00),
    (inRange 1 32768 (b.product i 0x18 2), 0x18),
    (inRange 1 32768 (b.product i 0x1A 2), 0x1A),
    ([1, 2, 4, 8].contains (b.product i 0x1C 1), 0x1C),
    (coordinate (b.productSigned i 0x24), 0x24),
    (coordinate (b.productSigned i 0x28), 0x28),
    (decide (b.product i 0x1D 1 ≤ 15), 0x1D),
    (multipleOf 8 (b.product i 0x08 8), 0x08),
    (multipleOf 8 (b.product i 0x10 8), 0x10)]

/-- The first entry of a table that fails, with its field. -/
def firstEntry (table : DetailTable) (n : Nat) (f : Nat → Option Nat) : Option Detail :=
  (List.range n).findSome? fun i => (f i).map fun c => commitDetail table i c

/-- R17: the RANGE check. The tiles' segment counts and then their pitches are examined after the segment
table and before the product table. -/
def Body.rangeCheck (b : Body) : Option Detail :=
  (b.headerRange.map fun c => commitDetail .header 0 c).or <|
  (firstEntry .tile b.tileCount b.tileRange).or <|
  (firstEntry .segment b.segmentCount b.segmentRange).or <|
  (firstEntry .tile b.tileCount b.tileFilled).or <|
  (firstEntry .tile b.tileCount b.pitchBound).or <|
  firstEntry .product 4 b.productRange

/-! ### OVERLAP (R18) -/

/-- A region of the plan: its first byte, the byte after its last, and whether it is a calibration frame. -/
structure Region where
  lo : Nat
  hi : Nat
  isFrame : Bool
  deriving DecidableEq, Repr

/-- R18: the end of the furthest segment row of a frame of a tile. -/
def Plan.frameEnd (p : Plan) (tile base : Nat) (t : TileEntry) : Nat :=
  p.segments.foldl (fun hi e =>
    if e.tile = tile then max hi (base + e.index * t.stride + (e.rows - 1) * t.pitch + 2 * e.width) else hi) base

def presentRegion (base size : Nat) : List Region :=
  if base = 0 then [] else [⟨base, base + size, false⟩]

/-- R18: the regions in list order; only those present have a position. -/
def Plan.regions (planBase : Nat) (p : Plan) : List Region :=
  ⟨planBase, planBase + Config.planAreaSize, false⟩ ::
    (presentRegion p.bank0 Config.bankSize ++ presentRegion p.bank1 Config.bankSize ++
      (p.products.flatMap fun e =>
        if e.base = 0 then []
        else presentRegion e.base (8 * e.cells) ++ presentRegion e.viewBase (2 * e.cells) ++
          presentRegion e.outBase (2 * e.cells)) ++
      ((List.range p.tiles.length).flatMap fun i =>
        match p.tiles[i]? with
        | none => []
        | some t => [t.zeroBase, t.darkBase, t.flatBase].flatMap fun base =>
            if base = 0 then [] else [⟨base, p.frameEnd i base t, true⟩]))

/-- Two regions share a byte; frames are not compared with one another. -/
def Region.clashes (a b : Region) : Bool :=
  !(a.isFrame && b.isFrame) && decide (a.lo < b.hi) && decide (b.lo < a.hi)

/-- R18: the position of the first region beyond fitted DRAM or over an earlier one. -/
def firstClash (fitted : Nat) : List Region → List Region → Nat → Option Nat
  | _, [], _ => none
  | earlier, r :: rest, i =>
    if fitted < r.hi ∨ earlier.any (fun e => e.clashes r) then some i
    else firstClash fitted (earlier ++ [r]) rest (i + 1)

def Plan.overlapCheck (planBase fitted : Nat) (p : Plan) : Option Detail :=
  (firstClash fitted [] (p.regions planBase) 0).map fun i => commitDetail .region i 0

/-! ### PRODUCT_IN_USE (R19) -/

/-- R19: the first changed field of a product that is not EMPTY, in table order. -/
def productChanged (old new : ProductEntry) (state : ProductState) : Option Nat :=
  match state with
  | .empty => none
  | _ =>
    let geometry := [
      (decide (old.base = new.base), 0x00),
      (decide (old.width = new.width), 0x18),
      (decide (old.height = new.height), 0x1A),
      (decide (old.bin = new.bin), 0x1C),
      (decide (old.px0 = new.px0), 0x24),
      (decide (old.py0 = new.py0), 0x28)]
    let render := if state = .rendering then
        [(decide (old.rs = new.rs), 0x1F), (decide (old.outBase = new.outBase), 0x10)] else []
    firstFailing (geometry ++ render)

/-- R19: each product entry against the plan in force. -/
def inUseCheck (inForce : Option Plan) (new : Plan) (state : Nat → ProductState) : Option Detail :=
  match inForce with
  | none => none
  | some old =>
    firstEntry .product 4 fun i =>
      productChanged (old.products.getD i ProductEntry.undefined) (new.products.getD i ProductEntry.undefined)
        (state i)

/-! ### The checks in their order (R14, R15) -/

/-- The table and entry of a beat of the body (R12). -/
def beatPlace (k : Nat) : Detail :=
  let off := 8 * k
  if off < 0x40 then commitDetail .header 0 0
  else if off < 0xC40 then commitDetail .tile ((off - 0x40) / 48) 0
  else if off < 0x2C40 then commitDetail .segment ((off - 0xC40) / 32) 0
  else commitDetail .product ((off - 0x2C40) / 64) 0

/-- R15: the GENERATION check, in its three cases. -/
def generationCheck (argument complement : BitVec 32) (header inForce : Nat) : Option Detail :=
  if complement ≠ ~~~argument then some (commitDetail .request 0 0x09)
  else if header ≠ argument.toNat then some (commitDetail .header 0 0x05)
  else if header = 0 ∨ header = inForce then some (commitDetail .header 1 0x05)
  else none

/-- R14: the first failing check gives the outcome with its detail; DONE when every check passes. -/
def Body.verdict (b : Body) (l : Loader) (load : Load) (planBase fitted : Nat)
    (state : Nat → ProductState) : ReplyOutcome × Detail :=
  if b.header 0x00 4 ≠ Config.planMarker then (.marker, commitDetail .header 0 0)
  else match generationCheck l.argument l.complement (b.header 0x04 4) l.generation with
  | some d => (.generation, d)
  | none =>
    if b.sum ≠ b.header 0x08 4 then (.check, commitDetail .header 0 0x09)
    else if load.changed then (.changed, Detail.zero)
    else match load.firstBad with
    | some k => (.memory, beatPlace k)
    | none =>
      match b.rangeCheck with
      | some d => (.range, d)
      | none =>
        match b.plan.overlapCheck planBase fitted with
        | some d => (.overlap, d)
        | none =>
          match inUseCheck l.plan b.plan state with
          | some d => (.productInUse, d)
          | none => (.done, Detail.zero)

end Sys2Proof.Machine
end

