-- ==== Sys2Proof/Machine/Loader.lean ====
section
/-! DEFINITION. The plan loader (sections 1.5 to 1.7): starting a load, reading the body, installing a plan
and recording the outcome. -/

namespace Sys2Proof.Machine

def isPlanRead : Job → Bool
  | .planRead _ => true
  | _ => false

/-- R12: with no read of its own waiting, the loader asks for the next beat of the body. -/
def State.planAsk (s : State) : State :=
  match s.loader.load with
  | none => s
  | some l =>
    if s.asking isPlanRead then s
    else if l.asked < Config.bodyBeats then
      (s.onLoader fun x => { x with load := some { l with asked := l.asked + 1 } }).ask
        ⟨.planRead l.asked, s.planBase + 8 * l.asked, none⟩
    else s

/-- R12: a load begins. -/
def State.beginLoad (immediate : Bool) (s : State) : State :=
  (s.onLoader fun l => { l with load := some ⟨0, [], none, false, immediate⟩ }).planAsk

/-- R11, R24: a deferred commit begins its load once no exposure is active and no RESTART is in hand. -/
def State.beginDeferred (s : State) : State :=
  if s.loader.pendingMark ∧ s.loader.load = none ∧ s.expo.records = [] ∧ s.restartInHand = false then
    s.beginLoad false
  else s

/-- R13: a write into the plan body is taken while a load is in progress. -/
def State.markChanged (s : State) : State :=
  s.onLoader fun l => { l with load := l.load.map fun x => { x with changed := true } }

/-- R6: a bank whose base changes or which becomes absent loses its late condition. -/
def State.clearLate (old new bank : Nat) (s : State) : State :=
  if old ≠ new ∨ new = 0 then
    s.onCapture fun c => { c with banks := c.banks.modify bank fun b => { b with late := false } }
  else s

/-- R21: the plan is installed as one change. -/
def State.install (p : Plan) (generation : Nat) (s : State) : State :=
  let old (bank : Nat) : Nat := match s.loader.plan with
    | some q => q.bankBase bank
    | none => 0
  let s := State.clearLate (old 1) p.bank1 1 (State.clearLate (old 0) p.bank0 0 s)
  { (s.onLoader fun l => { l with plan := some p, generation := generation }) with part := .planned }

/-- R22: the outcome of a load is recorded, the marks are cleared, and the reply is handed over or PLAN_DONE
raised. -/
def State.recordOutcome (immediate : Bool) (outcome : ReplyOutcome) (detail : Detail) (s : State) : State :=
  let s := s.onLoader fun l =>
    { l with outcome := some outcome, detail := detail, pendingMark := false, load := none }
  if immediate then s.reply outcome detail else s.raise .planDone

/-- R14, R21, R22: the last beat has been read: the checks, then the installation or the refusal. -/
def State.finishLoad (load : Load) (s : State) : State :=
  let body : Body := bytesOf (gathered Config.bodyBeats load.got)
  let v := body.verdict s.loader load s.planBase s.fitted fun i => (s.product i).state
  let s : State := if v.1 = .done then s.install body.plan (body.header 0x04 4) else s
  s.recordOutcome load.immediate v.1 v.2

/-- R12: a beat of the body is delivered; the first damaged one in address order is remembered. -/
def State.planDelivered (k : Nat) (data : Word) (found : EccCondition) (s : State) : State :=
  match s.loader.load with
  | none => s
  | some l =>
    let bad : Option Nat := match found, l.firstBad with
      | .uncorrectable, some j => some (min j k)
      | .uncorrectable, none => some k
      | _, b => b
    let l := { l with got := l.got ++ [(k, data)], firstBad := bad }
    if l.got.length = Config.bodyBeats then s.finishLoad l
    else s.onLoader fun x => { x with load := some l }

/-- R10: COMMIT_PLAN is taken. -/
def State.takeCommit (r : RequestRecord) (s : State) : State :=
  if s.loader.pendingMark then s.reply .busy Detail.zero
  else
    let active := !s.expo.records.isEmpty
    let s := s.onLoader fun l => { l with pendingMark := true, argument := r.argument, complement := r.complement }
    if active then s.reply .commitPending Detail.zero
    else (s.keepInHand 0).beginLoad true

end Sys2Proof.Machine
end

