-- ==== Sys2Proof/Machine/Fetch.lean ====
section
/-! DEFINITION. The calibration fetch unit (Chapter 3): starting, asking, abandoning and completing the
fetches of the fetch list. -/

namespace Sys2Proof.Machine

def Slot.frame (v : Slot) : Frame → FrameHold
  | .zero => v.zero
  | .dark => v.dark
  | .flat => v.flat

def Slot.setFrame (v : Slot) (f : Frame) (h : FrameHold) : Slot :=
  match f with
  | .zero => { v with zero := h }
  | .dark => { v with dark := h }
  | .flat => { v with flat := h }

/-- Some frame of the slot is PENDING (R43). -/
def Slot.waitsForFrame (v : Slot) : Bool :=
  [v.zero, v.dark, v.flat].any fun h => decide (h.status = some .pending)

def TileEntry.frameBase (t : TileEntry) : Frame → Nat
  | .zero => t.zeroBase
  | .dark => t.darkBase
  | .flat => t.flatBase

/-- R50: the first address of the frame row of a segment's row. -/
def frameRowAddr (t : TileEntry) (f : Frame) (index row : Nat) : Nat :=
  t.frameBase f + index * t.stride + row * t.pitch

def isCalRead : Job → Bool
  | .calRead _ _ _ => true
  | _ => false

def isCalReadOf (slot : Nat) : Job → Bool
  | .calRead i _ _ => decide (i = slot)
  | _ => false

def isCalDiscard : Job → Bool
  | .calDiscard => true
  | _ => false

/-- R53: with no read of its own waiting, the unit asks for the next beat of the head fetch. -/
def State.fetchAsk (s : State) : State :=
  if s.asking isCalRead then s
  else match s.fetch with
    | [] => s
    | f :: rest =>
      if f.asked < f.beats then
        (s.setFetch ({ f with asked := f.asked + 1 } :: rest)).ask
          ⟨.calRead f.slot f.frame f.asked, f.addr + 8 * f.asked, none⟩
      else s

/-- The reads in flight that `pick` names deliver data no one wants any more (R58). -/
def State.discardReads (pick : Job → Bool) (s : State) : State :=
  s.onPort fun p => { p with inFlight := p.inFlight.map fun a => if pick a.job then { a with job := .calDiscard } else a }

/-- R58: the fetches of a slot that becomes FREE are abandoned. -/
def State.abandonFetches (slot : Nat) (s : State) : State :=
  State.fetchAsk (State.discardReads (isCalReadOf slot) (State.withdraw (isCalReadOf slot)
    (s.setFetch (s.fetch.filter fun f => !decide (f.slot = slot)))))

/-- R52: one frame of a slot at its opening. -/
def State.startFetch (i : Nat) (t : TileEntry) (e : SegmentEntry) (f : Frame) (s : State) : State :=
  if t.frameBase f = 0 then s.setSlot i ((s.slot i).setFrame f ⟨some .absent, []⟩)
  else
    let s' := s.setSlot i ((s.slot i).setFrame f ⟨some .pending, []⟩)
    s'.setFetch (s'.fetch ++ [⟨i, f, frameRowAddr t f e.index (s.slot i).row, e.width / 4, 0, []⟩])

/-- R52: the slot's fetches join the list in the order zero, dark, flat. -/
def State.startFetches (i : Nat) (s : State) : State :=
  match s.segment (s.slot i).segment with
  | none => s
  | some e =>
    match s.tile e.tile with
    | none => s
    | some t => ([Frame.zero, Frame.dark, Frame.flat].foldl (fun u f => u.startFetch i t e f) s).fetchAsk

/-- The values of a frame row, four to a beat, in column order (R54). -/
def rowValues (units : List Word) : List (BitVec 16) :=
  units.flatMap fun w => (List.range 4).map fun j => w.extractLsb' (16 * j) 16

/-- R43: a CLOSED slot with no PENDING frame joins the tail of the ready queue. -/
def State.readyTest (i : Nat) (s : State) : State :=
  let v := s.slot i
  if v.state = .closed ∧ v.waitsForFrame = false then
    (s.setSlot i { v with state := .queued }).onCapture fun c => { c with ready := c.ready ++ [i] }
  else s

/-- The head fetch completes and leaves the list with a status and a row; the unit turns to the next head and
the slot is tested for the ready queue (R43, R53, R54). -/
def State.completeFetch (f : Fetch) (status : FrameStatus) (row : List (BitVec 16)) (s : State) : State :=
  let s := s.setFetch (s.fetch.filter fun g => !(decide (g.slot = f.slot) && decide (g.frame = f.frame)))
  ((s.setSlot f.slot ((s.slot f.slot).setFrame f.frame ⟨some status, row⟩)).readyTest f.slot).fetchAsk

/-- R38: a fault against the exposure that holds `bank`. -/
def State.recordFault (bank : Nat) (kind : FaultKind) (segment row column : Nat) (s : State) : State :=
  let tile := (s.segment segment).map fun e => e.tile
  s.onRecord bank fun r =>
    { r with
      counters := { r.counters with faultTotal := satAdd r.counters.faultTotal 1 }
      included := r.included.map fun t => if some t.tile = tile then { t with faults := satAdd t.faults 1 } else t
      firstFault := match r.firstFault with
        | some f => some f
        | none => some ⟨kind, segment, row, column⟩ }

/-- R54, R55: a beat of a fetch is delivered. -/
def State.fetchDelivered (slot : Nat) (frame : Frame) (beat : Nat) (data : Word) (found : EccCondition)
    (s : State) : State :=
  match s.fetch.find? fun f => decide (f.slot = slot) && decide (f.frame = frame) with
  | none => s
  | some f =>
    match found with
    | .uncorrectable =>
      let v := s.slot slot
      let s := s.recordFault v.bank .calFault v.segment v.row (4 * beat)
      let s := State.discardReads (isCalReadOf slot) (State.withdraw (isCalReadOf slot) s)
      s.completeFetch f .faulted []
    | _ =>
      let f' := { f with got := f.got ++ [(beat, data)] }
      if f'.got.length = f.beats then s.completeFetch f .loaded (rowValues (gathered f.beats f'.got))
      else s.setFetch (s.fetch.map fun g =>
        if decide (g.slot = slot) && decide (g.frame = frame) then f' else g)

end Sys2Proof.Machine
end

