-- ==== Sys2Proof/Machine/Capture.lean ====
section
/-! DEFINITION. The row capture unit (Chapter 2): opening, continuing and closing rows, holding beats for a
slot, and what the end of an exposure does to its slots. -/

namespace Sys2Proof.Machine

/-- R29: the COLLECTING slot of a bank and segment. -/
def State.collecting (s : State) (bank segment : Nat) : Option Nat :=
  s.capture.slots.findIdx? fun v =>
    decide (v.state = .collecting) && decide (v.bank = bank) && decide (v.segment = segment)

/-- R30: the lowest-numbered FREE slot. -/
def State.lowestFree (s : State) : Option Nat := s.capture.slots.findIdx? fun v => decide (v.state = .free)

/-- Columns of a segment's row, A + K; 0 for a segment the plan does not have. -/
def State.rowWidth (s : State) (segment : Nat) : Nat :=
  match s.segment segment with
  | some e => e.width + e.overscan
  | none => 0

/-- A slot becomes FREE and its fetches are abandoned (R58). -/
def State.freeSlot (i : Nat) (s : State) : State := (s.setSlot i Slot.blank).abandonFetches i

/-- The slot still holds its row for the duplicate test (R37). -/
def SlotState.holdsRow : SlotState → Bool
  | .closed | .queued | .applying => true
  | .free | .collecting => false

/-- R37: the row is done, or another slot of the exposure holds it. -/
def State.isDuplicate (s : State) (i : Nat) : Bool :=
  let v := s.slot i
  (match s.recordOf v.bank with
    | some r => r.rowMap.contains (v.segment, v.row)
    | none => false) ||
  (List.range s.capture.slots.length).any fun j =>
    let w := s.slot j
    decide (j ≠ i) && w.state.holdsRow && decide (w.bank = v.bank) && decide (w.segment = v.segment) &&
      decide (w.row = v.row)

/-- R35, R36, R37: a row closes with its kind; `column` is the column of the fault that the kind records. -/
def State.closeRow (i : Nat) (kind : Closure) (column : Nat) (s : State) : State :=
  let v := s.slot i
  if s.isDuplicate i then (s.recordFault v.bank .duplicateRow v.segment v.row 0).freeSlot i
  else
    let s := s.setSlot i { v with state := .closed, closure := some kind }
    let s : State := match kind with
      | .complete => s
      | .gapped => s.recordFault v.bank .gappedRow v.segment v.row column
      | .short => s.recordFault v.bank .shortRow v.segment v.row column
    s.readyTest i

/-- R36: a row closes SHORT. -/
def State.closeShort (i : Nat) (s : State) : State := s.closeRow i .short (s.slot i).next

/-- The lowest of the first `n` columns that was not received (R35). -/
def Slot.lowestMissing (v : Slot) (n : Nat) : Option Nat :=
  (List.range n).find? fun c => !(v.pixels.any fun p => decide (p.1 = c))

/-- R33, R34: the slot with the covered pixels of a beat in it. -/
def Slot.store (v : Slot) (width column : Nat) (enables : BitVec 8) (data : Word) : Slot :=
  let got := coveredPixels column enables data
  let osc := got.filter fun p => decide (width ≤ p.1)
  { v with
    next := column + 4
    pixels := v.pixels ++ got
    oscSum := v.oscSum + (osc.map fun p => p.2.toNat).sum
    oscCount := v.oscCount + osc.length }

/-- R33, R34, R35: a beat is stored, and the row closes when the beat carries its last column. -/
def State.storeBeat (i : Nat) (h : HeldBeat) (s : State) : State :=
  let width := match s.segment h.segment with
    | some e => e.width
    | none => 0
  let s : State := if anyPartly h.beat.enables then s.recordFault h.bank .partialBeat h.segment h.row h.column else s
  let v := (s.slot i).store width h.column h.beat.enables h.beat.data
  let s := s.setSlot i v
  if h.column + 4 = s.rowWidth h.segment then
    match v.lowestMissing (s.rowWidth h.segment) with
    | none => s.closeRow i .complete 0
    | some c => s.closeRow i .gapped c
  else s

/-- R31: a beat of the row being collected is stored, or discarded as backward. -/
def State.continueRow (i : Nat) (h : HeldBeat) (s : State) : State :=
  if h.column < (s.slot i).next then s.recordFault h.bank .outOfOrder h.segment h.row h.column
  else s.storeBeat i h

/-- The exposure bound to a bank stores its raw beats (R28). -/
def State.captures (s : State) (bank : Nat) : Bool :=
  match s.recordOf bank with
  | some r => r.capture
  | none => false

/-- A raw beat completes: one taken at its arrival when its store is granted or at once (R28, R169); one that
was held is given ready at once and stored then (R28, R40, R41). DESIGN CHOICE: a lock on its unit that has been taken
since does not hold it on (log 46). -/
def State.completeRaw (h : HeldBeat) (s : State) : State :=
  if s.captures h.bank then
    if h.arriving then s.askStore false h.beat else (s.respond h.beat .done).askStore true h.beat
  else s.finishWrite h.beat

/-- R40: the other held beats of a row that has just been opened are taken under R31, oldest first; the others stay
held in their places. DESIGN CHOICE: so do those of the row that are left once a beat has closed it (log 41). -/
def State.takeSameRow (bank segment row : Nat) : List HeldBeat → State → State
  | [], s => s
  | h :: rest, s =>
    let keep := (s.onCapture fun c => { c with held := c.held ++ [h] }).takeSameRow bank segment row rest
    if h.bank = bank ∧ h.segment = segment ∧ h.row = row then
      match s.collecting bank segment with
      | some i =>
        if (s.slot i).row = row then
          State.takeSameRow bank segment row rest ((s.continueRow i h).completeRaw h)
        else keep
      | none => keep
    else keep

/-- R30, R52: a beat opens a FREE slot for its row, then the held beats of that row follow (R40). -/
def State.openRow (i : Nat) (h : HeldBeat) (s : State) : State :=
  let tag := match s.recordOf h.bank with
    | some r => r.tag
    | none => 0
  let s := s.setSlot i { Slot.blank with
    state := .collecting, bank := h.bank, tag := tag, segment := h.segment, row := h.row, next := h.column }
  let s := ((s.startFetches i).storeBeat i h).completeRaw h
  (s.onCapture fun c => { c with held := [] }).takeSameRow h.bank h.segment h.row s.capture.held

/-- R40: a held beat is taken, as though it arrived now under R29, with `free` the slot it may open. -/
def State.takeHeld (free : Nat) (h : HeldBeat) (s : State) : State :=
  match s.collecting h.bank h.segment with
  | none => s.openRow free h
  | some i =>
    if (s.slot i).row = h.row then (s.continueRow i h).completeRaw h
    else (s.closeShort i).openRow free h

/-- R40: FREE slots are handed to held beats, the longest held first; `n` bounds how many. -/
def State.handSlots : Nat → State → State
  | 0, s => s
  | n + 1, s =>
    match s.capture.held, s.lowestFree with
    | h :: rest, some i => State.handSlots n ((s.onCapture fun c => { c with held := rest }).takeHeld i h)
    | _, _ => s

/-- R40, for as many held beats as there are. -/
def State.handOn (s : State) : State := s.handSlots s.capture.held.length

/-- R29 to R32, R39: a beat under case 4 of R27 arrives. A beat that needs a slot joins the list of held
beats and takes a FREE slot at once if there is one; otherwise it stays held with its timer started. -/
def State.captureBeat (h : HeldBeat) (s : State) : State :=
  let wait (s : State) : State := s.onCapture fun c => { c with held := c.held ++ [h] }
  let s : State := match s.collecting h.bank h.segment with
    | none => wait s
    | some i =>
      if (s.slot i).row = h.row then (s.continueRow i h).completeRaw h
      else wait (s.closeShort i)
  s.handOn.onCapture fun c => { c with held := c.held.map fun x => { x with arriving := false } }

/-! ### Binding (R26, R42) -/

def State.bank (s : State) (bank : Nat) : Bank := s.capture.banks.getD bank ⟨false, false⟩

def State.setBank (bank : Nat) (v : Bank) (s : State) : State :=
  s.onCapture fun c => { c with banks := c.banks.set bank v }

/-- R26: a write beat at an unbound bank is counted as late or unclaimed. -/
def State.countUnbound (late : Bool) (s : State) : State :=
  s.onCapture fun c => if late then { c with late := satAdd c.late 1 } else { c with unclaimed := satAdd c.unclaimed 1 }

/-- R42, R129: the held beats of an unbound bank are given ready, stored as ordinary memory and counted, a lock on their
unit or not (DESIGN CHOICE, log 46). -/
def State.releaseHeld (bank : Nat) (late : Bool) (s : State) : State :=
  let out := s.capture.held.filter fun h => decide (h.bank = bank)
  let s := s.onCapture fun c => { c with held := c.held.filter fun h => !decide (h.bank = bank) }
  out.foldl (fun t h => State.countUnbound late ((t.respond h.beat .done).askStore true h.beat)) s

/-- The bank is unbound: by timeout or abort with its late condition set, by completion without (R26, R129). -/
def State.unbind (bank : Nat) (late : Bool) (s : State) : State :=
  if (s.bank bank).bound then
    (s.setBank bank ⟨false, late || (s.bank bank).late⟩).releaseHeld bank late
  else s

/-- The numbers of the slots of the exposure on a bank in one of the states `pick` names. -/
def State.slotsOf (s : State) (bank : Nat) (pick : SlotState → Bool) : List Nat :=
  (List.range s.capture.slots.length).filter fun i =>
    decide ((s.slot i).bank = bank) && pick (s.slot i).state

def SlotState.isCollecting : SlotState → Bool
  | .collecting => true
  | _ => false

def SlotState.isHeld : SlotState → Bool
  | .free => false
  | _ => true

/-- The states that an abort frees a slot from (R46). -/
def SlotState.abortable : SlotState → Bool
  | .collecting | .closed | .queued => true
  | .free | .applying => false

/-- R45, R129: the COLLECTING slots of the exposure on a bank close SHORT, lowest number first (log 12). -/
def State.closeCollecting (bank : Nat) (s : State) : State :=
  (s.slotsOf bank SlotState.isCollecting).foldl (fun t i => t.closeShort i) s

/-- R46: the slots of the exposure on a bank are freed without being applied, and leave the ready queue. -/
def State.freeUnapplied (bank : Nat) (s : State) : State :=
  let out := s.slotsOf bank SlotState.abortable
  out.foldl (fun t i => t.freeSlot i) (s.onCapture fun c => { c with ready := c.ready.filter fun i => !out.contains i })

end Sys2Proof.Machine
end

