-- ==== Sys2Proof/Machine/Arith.lean ====
section
/-! DEFINITION. The calibration, placement and normalisation arithmetic, exact integers throughout
(Chapters 4, 5 and 8). -/

namespace Sys2Proof.Machine

/-- Replaced by `lo` if below it, by `hi` if above it (00_scope.md, Arithmetic Words). -/
def clamp (lo hi z : Int) : Int := if z < lo then lo else if hi < z then hi else z

/-! ### Bias (R63, R64, R65) -/

/-- R63: the overscan mean in sixteenths, absent when K is 0 or no overscan pixel was received. -/
def overscanMean (k sum n : Nat) : Option Nat :=
  if k = 0 ∨ n = 0 then none else some ((16 * sum + n / 2) / n)

/-- R64: the bias state after a row with or without a mean. -/
def biasStep (weight fixed : Nat) (b : Bias) (mean : Option Nat) : Bias :=
  match b.seeded, mean with
  | false, some m => ⟨true, m⟩
  | false, none => ⟨false, fixed * 16⟩
  | true, some m => ⟨true, ((b.b16 : Int) + ((m : Int) - b.b16) / (2 ^ weight : Nat)).toNat⟩
  | true, none => b

/-- R65: the bias in ADU. -/
def biasAdu (b16 : Nat) : Nat := (b16 + 8) / 16

/-! ### Calibration (R66 to R69) -/

/-- R66: the dark charge in ADU. -/
def darkCharge (d e : Nat) : Nat := (d * e + 2 ^ 19) / 2 ^ 20

/-- R67: the pre-scale value before its clamp. -/
def preScaleExact (p b : Nat) (z : Int) (dk : Nat) : Int := (p : Int) - b - z - dk

/-- R67: the pre-scale value. -/
def preScale (p b : Nat) (z : Int) (dk : Nat) : Int := clamp (-65536) 65535 (preScaleExact p b z dk)

/-- R68: the combined factor. -/
def combinedFactor (g t : Nat) : Nat := min 65535 ((g * t + 2 ^ 13) / 2 ^ 14)

/-- R69: the calibrated value before its clamp. -/
def calibratedExact (q : Int) (g k : Nat) : Int := (q * g * k + 2 ^ 25) / 2 ^ 26

/-- R69: the calibrated value. -/
def calibrated (q : Int) (g k : Nat) : Int := clamp (-2097152) 2097151 (calibratedExact q g k)

/-- R67, R69: the pixel's value with its one clamp mark. -/
def calibrate (p b : Nat) (z : Int) (dk g k : Nat) : PixelKind :=
  let q := preScale p b z dk
  .value (calibrated q g k)
    (decide (q ≠ preScaleExact p b z dk) || decide (calibrated q g k ≠ calibratedExact q g k))

/-- R49: a zero-frame value read as two's complement. -/
def zeroLevel (v : BitVec 16) : Int := v.toInt

/-! ### Placement (R80 to R84) -/

/-- R80: the position of pixel (x, y) of a segment at (x0, y0). -/
def orient (o : Orientation) (x0 y0 : Int) (x y : Nat) : Int × Int :=
  match o with
  | .ident => (x0 + x, y0 + y)
  | .flipX => (x0 - x, y0 + y)
  | .flipY => (x0 + x, y0 - y)
  | .rot180 => (x0 - x, y0 - y)
  | .transpose => (x0 + y, y0 + x)
  | .rot90 => (x0 - y, y0 + x)
  | .rot270 => (x0 + y, y0 - x)
  | .antiTranspose => (x0 - y, y0 - x)

/-- R82, R83, R84, R85: the cell index of pixel (x, y) through a placement map, none when off-grid. -/
def PlacementMap.cell (m : PlacementMap) (p : PlacedSegment) (x y : Nat) : Option Nat :=
  let uv := orient p.orientation p.u0 p.v0 x y
  let cx := uv.1 / (m.bin : Int)
  let cy := uv.2 / (m.bin : Int)
  if 0 ≤ cx ∧ cx < m.width ∧ 0 ≤ cy ∧ cy < m.height then some (cy.toNat * m.width + cx.toNat) else none

/-- R84: the address of a cell's record. -/
def cellAddress (base cell : Nat) : Nat := base + cell * 8

/-! ### Normalisation (R160) -/

/-- R160: the normalised value of a cell, rounded half away from zero and clamped; BLANK without hits. -/
def normalise (sum : Int) (hits rs : Nat) : BitVec 16 :=
  if hits = 0 then Config.blank
  else
    let d := hits * 2 ^ rs
    let a := (2 * sum.natAbs + d) / (2 * d)
    BitVec.ofInt 16 (clamp (-32767) 32767 (if sum < 0 then -(a : Int) else a))

end Sys2Proof.Machine
end

