-- ==== Sys2Proof/Machine/Flags.lean ====
section
/-! DEFINITION. The cell flags and the merge decision that sets them (R72 to R76, R90). -/

namespace Sys2Proof.Machine

/-- The cell flags, by their bits (Table 12-13). -/
def flagSat : BitVec 8 := 0x01#8
def flagReject : BitVec 8 := 0x02#8
def flagOverflow : BitVec 8 := 0x04#8
def flagFull : BitVec 8 := 0x08#8
def flagClamp : BitVec 8 := 0x10#8
def flagLost : BitVec 8 := 0x20#8

/-- A cell started afresh after an uncorrectable fill (R98). -/
def CellRecord.fresh : CellRecord := ⟨0, 0, flagLost, 0⟩

/-- A flag when its condition holds. -/
def flagIf (c : Bool) (f : BitVec 8) : BitVec 8 := if c then f else 0#8

/-- What a merge decision made of a pixel (R73 to R76). -/
inductive Decided where
  | saturated | full | rejected | applied
  deriving DecidableEq, Repr

/-- The clip settings of a product (R75). -/
structure Clip where
  min : Nat
  floor : Nat
  shift : Nat
  deriving DecidableEq, Repr

/-- R75: the pixel's value is further from the cell mean than the threshold allows. -/
def clipRejects (clip : Clip) (r : CellRecord) (c : Int) : Bool :=
  decide (0 < clip.min ∧ clip.min ≤ r.hits) &&
    (let m := r.sum.tdiv r.hits
     decide ((clip.floor + m.natAbs / 2 ^ clip.shift : Nat) < (c - m).natAbs))

/-- The limits of sum (R76, R89). -/
def sumMin : Int := -2147483648
def sumMax : Int := 2147483647

/-- R73 to R76: the merge decision of a pixel against a cell record. -/
def mergeDecision (clip : Clip) (tag : Nat) (kind : PixelKind) (r : CellRecord) : CellRecord × Decided :=
  match kind with
  | .saturated => ({ r with flags := r.flags ||| flagSat, tag := tag }, .saturated)
  | .value c mark =>
    let marked := r.flags ||| flagIf mark flagClamp
    if r.hits = 65535 then ({ r with flags := marked ||| flagFull, tag := tag }, .full)
    else if clipRejects clip r c then ({ r with flags := marked ||| flagReject, tag := tag }, .rejected)
    else
      let total := r.sum + c
      let tooFar := decide (total < sumMin ∨ sumMax < total)
      ({ sum := clamp sumMin sumMax total, hits := r.hits + 1, flags := marked ||| flagIf tooFar flagOverflow,
         tag := tag }, .applied)

end Sys2Proof.Machine
end

