-- ==== Sys2Proof/Machine/Merge.lean ====
section
/-! DEFINITION. The merge buffer (Chapter 6): entries, use order, fills, write-back, flushes, and the frame
bus beats that meet its entries; with them the view reads, which are answered from entries too (R164). -/

namespace Sys2Proof.Machine

/-! ### Entries -/

/-- The entry that holds a cell (R96). -/
def State.entryOf (s : State) (addr : Nat) : Option Nat :=
  s.merge.entries.findIdx? fun e => match e with
    | some e => decide (e.addr = addr)
    | none => false

def entryIn (st : EntryState) (e : Option Entry) : Bool :=
  match e with
  | some e => decide (e.state = st)
  | none => false

/-- R95: the number of DIRTY entries. -/
def State.dirtyCount (s : State) : Nat := s.merge.entries.countP (entryIn .dirty)

def isFill : Job → Bool
  | .fill => true
  | _ => false

def isWriteBack : Job → Bool
  | .writeBack _ => true
  | _ => false

def isWriteBackOf (i : Nat) : Job → Bool
  | .writeBack j => decide (j = i)
  | _ => false

def isBusWrite : Job → Bool
  | .busWrite _ _ => true
  | _ => false

/-- An entry becomes free: it leaves the use order, an asked write of it is withdrawn, and it is settled in
every flush's set (R94, R101, R103). -/
def State.dropEntry (i : Nat) (s : State) : State :=
  ((s.withdraw (isWriteBackOf i)).setEntry i none).onMerge fun m =>
    { m with
      order := m.order.filter fun j => !decide (j = i)
      flushes := m.flushes.map fun f => { f with members := f.members.filter fun x => !decide (x.entry = i) } }

/-- An entry moves to the tail of the use order (R94). -/
def State.touch (i : Nat) (s : State) : State :=
  s.onMerge fun m => { m with order := (m.order.filter fun j => !decide (j = i)) ++ [i] }

/-- The cell is locked by a frame bus locked pair (R113). -/
def State.cellLocked (s : State) (addr : Nat) : Bool :=
  match s.bus.lock with
  | some l => decide (l.unit = addr)
  | none => false

/-- A frame bus write to the cell has been taken and has not completed (R97). -/
def State.writeUnderway (s : State) (addr : Nat) : Bool :=
  (s.port.asks.any fun a => isBusWrite a.job && decide (a.unit = addr)) ||
  (s.port.inFlight.any fun a => isBusWrite a.job && decide (a.unit = addr)) ||
  s.bus.heldCells.any fun b => b.write && decide (b.unit = addr)

/-- R96: the entry an allocation takes: the lowest-numbered free one, else the least recently used CLEAN one. -/
def State.allocatable (s : State) : Option Nat :=
  match s.merge.entries.findIdx? fun e => e.isNone with
  | some i => some i
  | none => s.merge.order.find? fun i => entryIn .clean (s.entry i)

/-- R97: the fill of a FILLING entry is asked unless its cell is locked or a frame bus write to it is underway. -/
def State.askFill (s : State) : State :=
  match s.merge.entries.findIdx? fun e => entryIn .filling e && !(e.any fun x => x.fillAsked) with
  | none => s
  | some i =>
    match s.entry i with
    | none => s
    | some e =>
      if s.cellLocked e.addr || s.writeUnderway e.addr then s
      else (s.setEntry i (some { e with fillAsked := true })).ask ⟨.fill, e.addr, none⟩

/-- The pixel handed on and not accepted waits for something else from now on. -/
def State.setWaiting (w : Option (Pixel × Waiting)) (s : State) : State :=
  s.onPipe fun p => { p with applying := p.applying.map fun a => { a with pixel := w } }

/-- The pixel handed on and not accepted, if any. -/
def State.waitingPixel (s : State) : Option (Pixel × Waiting) := s.pipe.applying.bind fun a => a.pixel

/-- R96: a missing pixel allocates an entry, evicting a CLEAN one where none is free, or waits for one. -/
def State.allocate (px : Pixel) (s : State) : State :=
  match s.allocatable with
  | none => s.setWaiting (some (px, .allocation))
  | some i =>
    let s := (s.dropEntry i).setEntry i (some
      { addr := px.addr, product := px.product, record := CellRecord.empty, state := .filling,
        fillAsked := false, writeAsked := false, writeOutstanding := false })
    ((s.touch i).setWaiting (some (px, .fill))).askFill

/-! ### View reads (R164) -/

def isViewRead : Job → Bool
  | .viewRead _ => true
  | _ => false

/-- The four values of a completed view read, position 0 at the lowest address. -/
def viewData (values : List (BitVec 16)) : Word :=
  values.getD 3 0#16 ++ values.getD 2 0#16 ++ values.getD 1 0#16 ++ values.getD 0 0#16

/-- The rs a value is normalised with: the installed one (R164). DESIGN CHOICE: where none is installed, the
product having become undefined while the position was being read, it is a free value (log 36). -/
def State.rsOf (s : State) (product : Nat) : Nat :=
  match s.productEntry product with
  | some e => e.rs
  | none => (Config.absentRs s.freeCount).toNat

/-- A view read completes; a locked one that made no port access starts the hold here (R185). -/
def State.finishView (v : ViewRead) (s : State) : State :=
  let s := s.respond v.beat (.data (viewData v.values))
  if v.holdDue then s.onPort fun p => { p with hold := true } else s

/-- R164: the next `n` positions of a view read are answered in order, until one must wait. DESIGN CHOICE: a position's
case is chosen here, when its turn comes, and not again when its record is delivered (log 43). -/
def State.viewAdvance : Nat → ViewRead → State → State
  | 0, v, s => s.finishView v
  | n + 1, v, s =>
    let cell := v.first + v.values.length
    let addr := cellAddress v.base cell
    let known (x : BitVec 16) : ViewRead := { v with values := v.values ++ [x] }
    let fromStore : State := s.ask ⟨.viewRead v, addr, none⟩
    if v.total ≤ cell then State.viewAdvance n (known Config.blank) s
    else match (s.product v.product).state with
      | .empty | .clearing => State.viewAdvance n (known Config.blank) s
      | .opened =>
        match (s.entryOf addr).bind s.entry with
        | some e =>
          if e.state = .filling then s.onBus fun f => { f with views := f.views ++ [v] }
          else State.viewAdvance n (known (normalise e.record.sum e.record.hits (s.rsOf v.product))) s
        | none => fromStore
      | .frozen | .rendering => fromStore

/-- A view read resumes where it stopped. -/
def State.resumeView (v : ViewRead) (s : State) : State := s.viewAdvance (4 - v.values.length) v

/-- The view reads that wait for the fill of a cell resume (R164). -/
def State.resumeViewsOn (addr : Nat) (s : State) : State :=
  let here (v : ViewRead) : Bool := decide (cellAddress v.base (v.first + v.values.length) = addr)
  let out := s.bus.views.filter here
  out.foldl (fun t v => t.resumeView v) (s.onBus fun f => { f with views := f.views.filter fun v => !here v })

/-! ### Frame bus beats that meet an entry (R110, R111, R113) -/

/-- A beat is held on an entry (R169). -/
def State.holdCell (b : BusBeat) (s : State) : State := s.onBus fun f => { f with heldCells := f.heldCells ++ [b] }

/-- The reads held on a cell that the buffer no longer fills are carried out against memory. -/
def State.releaseReads (addr : Nat) (s : State) : State :=
  let here (b : BusBeat) : Bool := !b.write && !b.locked && decide (b.unit = addr)
  let out := s.bus.heldCells.filter here
  (out.foldl (fun t b => t.askRead b)
    (s.onBus fun f => { f with heldCells := f.heldCells.filter fun b => !here b })).resumeViewsOn addr

/-- R97: a FILLING entry whose fill is not yet asked is freed; its pixel stays waiting. -/
def State.freeUnasked (i : Nat) (addr : Nat) (s : State) : State :=
  let s := s.dropEntry i
  let s : State := match s.waitingPixel with
    | some (px, .fill) => s.setWaiting (some (px, .access))
    | _ => s
  s.releaseReads addr

/-- R114: an entry was dropped with contributions lost. -/
def State.countOverwritten (s : State) : State :=
  s.onMerge fun m => { m with overwritten := satAdd m.overwritten 1 }

/-- R110, R111, R113: what a beat for a cell of an OPEN product does with the entry as it stands: it is
carried out against memory, served, or held. -/
def State.cellBeat (s : State) (b : BusBeat) : State :=
  let carryOut (s : State) : State := if b.write then s.askStore false b else s.askRead b
  match s.entryOf b.unit with
  | none => carryOut s
  | some i =>
    match s.entry i with
    | none => carryOut s
    | some e =>
      if !b.write && !b.locked then
        if e.state = .filling then s.holdCell b else s.respond b (.data e.record.word)
      else match e.state with
        | .filling => if e.fillAsked then s.holdCell b else carryOut (s.freeUnasked i e.addr)
        | .clean => carryOut (s.dropEntry i)
        | .dirty =>
          if e.writeOutstanding || b.locked then s.holdCell b
          else carryOut ((s.dropEntry i).countOverwritten)
        | .writing => s.holdCell b

/-- The beats held on entries go as far as the entries now let them, in the order they arrived, a lock on their cell or
not (DESIGN CHOICE, log 46). -/
def State.cellsAdvance (s : State) : State :=
  s.bus.heldCells.foldl (fun t b => t.cellBeat b) (s.onBus fun f => { f with heldCells := [] })

/-- The reads held on a FILLING entry are served with the record its fill left (R97, R98). -/
def State.serveReads (addr : Nat) (w : Word) (s : State) : State :=
  let here (b : BusBeat) : Bool := !b.write && !b.locked && decide (b.unit = addr)
  let out := s.bus.heldCells.filter here
  (out.foldl (fun t b => t.respond b (.data w))
    (s.onBus fun f => { f with heldCells := f.heldCells.filter fun b => !here b })).resumeViewsOn addr

/-! ### Write-back (R100, R101, R102) -/

/-- R100: DIRTY without the write-outstanding mark. -/
def eligible (e : Option Entry) : Bool :=
  match e with
  | some e => decide (e.state = .dirty) && !e.writeOutstanding
  | none => false

/-- R113: the entry whose write a locked read forces ahead of the engine's choice. -/
def State.forcedWrite (s : State) : Option Nat :=
  s.bus.heldCells.findSome? fun b =>
    if b.locked then (s.entryOf b.unit).filter fun i => eligible (s.entry i) else none

/-- Some pixel waits for an entry (R96). -/
def State.allocationWaits (s : State) : Bool :=
  match s.waitingPixel with
  | some (_, .allocation) => true
  | _ => false

/-- Every entry of the flush's set is settled (R103). -/
def Flush.complete (f : Flush) : Bool := f.members.all fun m => m.settled

/-- A flush is in progress and some entry of its set is not yet settled (R100). -/
def State.flushDraws (s : State) : Bool := s.merge.flushes.any fun f => !f.complete

/-- The entry belongs to the set of such a flush (R100). -/
def State.inFlush (s : State) (i : Nat) : Bool :=
  s.merge.flushes.any fun f => !f.complete && f.members.any fun m => decide (m.entry = i)

/-- R100: the engine's choice, the forced write of a locked read first (R113). -/
def State.writeBackPick (s : State) : Option Nat :=
  match s.forcedWrite with
  | some i => some i
  | none =>
    let lru := s.merge.order.find? fun i => eligible (s.entry i)
    if s.allocationWaits then lru
    else if s.flushDraws then s.merge.order.find? fun i => eligible (s.entry i) && s.inFlush i
    else if Config.dirtyHigh ≤ s.dirtyCount then lru else none

/-- R100: the chosen entry takes the write-asked mark and its write is asked. -/
def State.askWriteBack (i : Nat) (s : State) : State :=
  match s.entry i with
  | none => s
  | some e =>
    (s.setEntry i (some { e with writeAsked := true })).ask ⟨.writeBack i, e.addr, some ⟨0xFF#8, e.record.word⟩⟩

/-- R101, R103: the grant of an entry's write makes it WRITING, and the write carries what its flushes wait for. -/
def State.writeBackGranted (i : Nat) (s : State) : State :=
  match s.entry i with
  | none => s
  | some e =>
    (s.setEntry i (some { e with state := .writing, writeAsked := false })).onMerge fun m =>
      { m with flushes := m.flushes.map fun f =>
          { f with members := f.members.map fun x => if x.entry = i then { x with granted := true } else x } }

/-- R102, R103: the completion of an entry's write. -/
def State.writeBackDone (i : Nat) (s : State) : State :=
  let s : State := match s.entry i with
    | none => s
    | some e =>
      if e.state = .writing then s.setEntry i (some { e with state := .clean })
      else s.setEntry i (some { e with writeOutstanding := false })
  s.onMerge fun m =>
    { m with flushes := m.flushes.map fun f =>
        { f with members := f.members.map fun x =>
            if x.entry = i ∧ x.granted = true then { x with settled := true } else x } }

/-! ### Flushes (R103) -/

/-- R103: the set of a flush of some products, as it starts. -/
def State.flushSet (s : State) (products : Nat → Bool) : List FlushMember :=
  (List.range s.merge.entries.length).filterMap fun i =>
    match s.entry i with
    | some e =>
      if products e.product then
        match e.state with
        | .dirty => some ⟨i, false, false⟩
        | .writing => some ⟨i, true, false⟩
        | .clean | .filling => none
      else none
    | none => none

/-- R103: a flush starts. It completes at the end of the step if its set is empty. -/
def State.beginFlush (asker : FlushFor) (products : Nat → Bool) (s : State) : State :=
  s.onMerge fun m => { m with flushes := m.flushes ++ [⟨asker, s.flushSet products⟩] }

/-- Drops every held entry that `pick` names. -/
def State.dropEntries (pick : Entry → Bool) (s : State) : State :=
  ((List.range s.merge.entries.length).filter fun i => (s.entry i).any pick).foldl (fun t i => t.dropEntry i) s

end Sys2Proof.Machine
end

