-- ==== Sys2Proof/Machine/NoticeUnit.lean ====
section
/-! DEFINITION. The notice unit (Chapter 11): tile health, the status block, replies, acknowledge and mask. -/

namespace Sys2Proof.Machine

/-! ### Tile health (R193, R195) -/

/-- R193: the tile reaches a threshold; a threshold of 0 is off. -/
def reaches (count threshold : Nat) : Bool := decide (threshold ≠ 0) && decide (threshold ≤ count)

/-- R193: how a health state moves when the tile reaches a threshold. -/
def HealthState.worsen (h : HealthState) (quarantine : Bool) : HealthState :=
  match h, quarantine with
  | .quarantined, _ => .quarantined
  | _, true => .quarantined
  | _, false => .warned

/-- R193: one included tile's health record after an evaluation. -/
def Health.evaluate (h : Health) (c : TileCount) (p : Plan) (quarantine : Bool) : Health :=
  let hit := reaches c.saturated p.satThreshold || reaches c.rejected p.rejThreshold || reaches c.faults p.faultThreshold
  { state := if hit then h.state.worsen quarantine else h.state
    saturated := satAdd h.saturated c.saturated
    rejected := satAdd h.rejected c.rejected
    faults := satAdd h.faults c.faults }

/-- R193: the health records after the evaluation of an included-tile list. -/
def evaluateTiles (p : Plan) (tiles : List Health) (included : List TileCount) : List Health :=
  included.foldl (fun hs c =>
    let quarantine := match p.tiles[c.tile]? with
      | some t => t.quarantine
      | none => false
    hs.modify c.tile fun h => h.evaluate c p quarantine) tiles

/-- R193: some tile's health has worsened. -/
def worsened (before after : List Health) : Bool :=
  (before.zip after).any fun p => decide (p.1.state ≠ p.2.state)

/-- R193: the evaluation of an exposure; it ends by asking for a status block write. -/
def State.evaluateHealth (included : List TileCount) (s : State) : State :=
  match s.loader.plan with
  | none => s
  | some p =>
    let after := evaluateTiles p s.notice.tiles included
    let bad := worsened s.notice.tiles after
    let s := s.onNotice fun n => { n with tiles := after, wanted := true }
    if bad then s.raise .tileAttention else s

/-- The health state of a tile index (R192). -/
def State.health (s : State) (tile : Nat) : HealthState :=
  match s.notice.tiles[tile]? with
  | some h => h.state
  | none => .normal

/-- R195: RELEASE_TILE is taken; every reply of the rule carries the tile and the state it held (log 13). -/
def State.takeRelease (r : RequestRecord) (s : State) : State :=
  let held := (s.health r.tile).code
  let detail : Detail := ⟨.tile, r.tile, 0, held, 0⟩
  if s.part ≠ .planned then s.reply .noPlan Detail.zero
  else if 64 ≤ r.tile then s.reply .badArgument detail
  else if s.health r.tile = .normal then s.reply .badState detail
  else (s.onNotice fun n => { n with tiles := n.tiles.modify r.tile fun h => { h with state := .normal } }).reply .done detail

/-! ### Acknowledge and mask (R199, R200) -/

/-- The causes a control word names; bits 9 to 31 are ignored (12.5). -/
def causesOf (v : BitVec 32) : BitVec 9 := v.extractLsb' 0 9

/-- R199: the latched set after an acknowledge. -/
def acknowledged (latched named : BitVec 9) (attention : Bool) : BitVec 9 :=
  let kept := if attention then named &&& ~~~Cause.tileAttention.bit else named
  latched &&& ~~~kept

/-- R199: an acknowledge word is taken. -/
def State.takeAck (v : BitVec 32) (s : State) : State :=
  s.onNotice fun n =>
    Notice.evaluate { n with latched := acknowledged n.latched (causesOf v) n.attention, wanted := true }

/-- R200: a mask word is taken. -/
def State.takeMask (v : BitVec 32) (s : State) : State :=
  s.onNotice fun n => Notice.evaluate { n with mask := causesOf v, wanted := true }

/-! ### The status block (R201, Table 12-12) -/

/-- Commit pending: clear, waiting for exposures to end, or loading (Table 12-10). -/
def Loader.pendingCode (l : Loader) : Nat :=
  if l.pendingMark then (if l.load.isSome then 2 else 1) else 0

def Health.bytes (h : Health) : List Byte :=
  leBytes 1 h.state.code ++ [0#8, 0#8, 0#8] ++ leBytes 4 h.saturated ++ leBytes 4 h.rejected ++ leBytes 4 h.faults

/-- The straps byte (Table 12-12). -/
def Straps.code (x : Straps) : Nat := (if x.bypass then 1 else 0) + 2 * x.planSel.toNat + 8 * x.memSize.toNat

/-- R201: the status block as it stands, with a status sequence and the causes it shows as latched. DESIGN CHOICE: the job
product is shown as 0 while the engine is IDLE (log 48). -/
def State.statusBytes (s : State) (sequence : Nat) (latched : BitVec 9) : List Byte :=
  let hand := match s.bus.inHand with
    | some q => (q.kind, q.sequence)
    | none => (0, 0)
  let e := s.prod.engine
  leBytes 4 sequence ++ leBytes 1 s.part.code ++ leBytes 1 s.straps.code ++ leBytes 1 s.loader.pendingCode ++
    [0#8] ++ leBytes 4 s.loader.generation ++ leBytes 1 (lastOutcomeCode s.loader.outcome) ++
    leBytes 1 s.loader.detail.table.code ++ leBytes 2 s.loader.detail.entry ++ leBytes 2 s.loader.detail.field ++
    leBytes 2 hand.1 ++ leBytes 2 hand.2 ++ leBytes 1 s.expo.accepted ++ leBytes 1 s.expo.consume ++
    leBytes 4 s.expo.reportSeq ++
    (s.prod.products.flatMap fun p => leBytes 1 (p.state.code + 16 * p.mark.code)) ++
    leBytes 1 (if e.kind.isSome then 1 else 0) ++ leBytes 1 (jobCode e.kind) ++
    leBytes 1 (if e.kind.isSome then e.product else 0) ++ [0#8] ++ leBytes 4 e.done ++ leBytes 4 e.total ++
    leBytes 2 latched.toNat ++ leBytes 2 s.notice.mask.toNat ++
    leBytes 4 s.port.corrected ++ leBytes 4 s.port.uncorrectable ++ leBytes 4 s.capture.stray ++
    leBytes 4 s.capture.unclaimed ++ leBytes 4 s.capture.late ++ leBytes 4 s.bus.protectCount ++
    leBytes 4 s.bus.requestsLost ++ leBytes 4 s.merge.overwritten ++ List.replicate 48 0#8 ++
    s.notice.tiles.flatMap Health.bytes ++ leBytes 4 sequence ++ List.replicate 4 0#8

/-! ### Writing (R198) -/

def isNoticeUnit : Job → Bool
  | .statusUnit _ | .replyUnit _ => true
  | _ => false

def isStatusUnit : Job → Bool
  | .statusUnit _ => true
  | _ => false

def isReplyUnit : Job → Bool
  | .replyUnit _ => true
  | _ => false

def isReportUnit : Job → Bool
  | .reportUnit _ => true
  | _ => false

/-- The notice unit writes neither a reply nor a status block (R198). -/
def State.noticeIdle (s : State) : Bool := s.notice.status.isNone && s.notice.reply.isNone

/-- R182, R198: with no write of its own waiting, the notice unit asks for the next unit it has to write. -/
def State.noticeAsk (s : State) : State :=
  if s.asking isNoticeUnit then s
  else match s.notice.reply with
    | some w =>
      if w.asked < w.units.length then
        (s.onNotice fun n => { n with reply := some { w with asked := w.asked + 1 } }).ask
          ⟨.replyUnit w.asked, s.planBase + Config.replyAt + 8 * w.asked, some ⟨0xFF#8, w.units.getD w.asked 0#64⟩⟩
      else s
    | none =>
      match s.notice.status with
      | some w =>
        if w.asked < w.units.length then
          (s.onNotice fun n => { n with status := some { w with asked := w.asked + 1 } }).ask
            ⟨.statusUnit w.asked, s.planBase + Config.statusAt + 8 * w.asked, some ⟨0xFF#8, w.units.getD w.asked 0#64⟩⟩
        else s
      | none => s

/-- R179, R198: the notice unit begins to write the reply that waits. -/
def State.startReply (r : Reply) (s : State) : State :=
  (s.onNotice fun n =>
    { n with replyWaiting := none, reply := some ⟨unitsOf Config.replyUnits r.bytes, 0⟩ }).noticeAsk

/-- R198, R201: the notice unit takes a snapshot and begins to write it with the pending causes. -/
def State.startStatus (s : State) : State :=
  let sequence := (s.notice.statusSeq + 1) % 2 ^ 32
  let causes := s.notice.pending
  let units := unitsOf Config.statusUnits (s.statusBytes sequence (s.notice.latched ||| causes))
  (s.onNotice fun n =>
    { n with
      wanted := false, pending := 0#9, statusSeq := sequence
      status := some { units := units, asked := 0, causes := causes, publishes := true } }).noticeAsk

/-- R198: the causes a completed status block published join the latched set. -/
def State.finishStatus (w : StatusWrite) (s : State) : State :=
  s.onNotice fun n =>
    Notice.evaluate { n with status := none, latched := if w.publishes then n.latched ||| w.causes else n.latched }

/-- R202: what a RESTART does to the notices. -/
def State.restartNotices (s : State) : State :=
  let s := s.onNotice fun n =>
    { n with
      latched := 0#9, pending := 0#9, wanted := true, line := false
      status := n.status.map fun w => { w with publishes := false } }
  if s.notice.attention then s.raise .tileAttention else s

end Sys2Proof.Machine
end

