-- ==== Sys2Proof/Machine/Exposure.lean ====
section
/-! DEFINITION. The exposure controller (Chapter 7): the ring, activation, completion, abort, drain and reports. -/

namespace Sys2Proof.Machine

/-! ### Port work (R121, R132, R137, R182) -/

def isExpoJob : Job → Bool
  | .descriptorRead _ | .searchRead _ | .reportUnit _ => true
  | _ => false

def isDescriptorRead : Job → Bool
  | .descriptorRead _ => true
  | _ => false

def isSearchRead : Job → Bool
  | .searchRead _ => true
  | _ => false

/-- The ring slot of a descriptor (R118). -/
def State.ringAddr (s : State) (number : Nat) : Nat := s.planBase + Config.ringAt + number % 8 * 256

/-- The report slot of a report sequence (R137). -/
def State.reportAddr (s : State) (sequence : Nat) : Nat :=
  s.planBase + Config.reportsAt + (sequence + 2 ^ 32 - 1) % 8 * 4096

/-- The next ask of one piece of the controller's port work, if it has one to make. -/
def State.taskAsk (s : State) : ExpoTask → Option (Ask × (ExposureCtl → ExposureCtl))
  | .activation => s.expo.activation.bind fun a =>
      if a.asked < Config.descriptorUnits then
        some (⟨.descriptorRead a.asked, s.ringAddr a.number + 8 * a.asked, none⟩,
          fun e => { e with activation := some { a with asked := a.asked + 1 } })
      else none
  | .search => s.expo.search.bind fun q =>
      if q.asked then none
      else some (⟨.searchRead q.current, s.ringAddr q.current, none⟩,
        fun e => { e with search := some { q with asked := true } })
  | .report => s.expo.report.bind fun w =>
      if w.asked < w.units.length then
        some (⟨.reportUnit w.asked, s.reportAddr w.sequence + 8 * w.asked,
            some ⟨0xFF#8, w.units.getD w.asked 0#64⟩⟩,
          fun e => { e with report := some { w with asked := w.asked + 1 } })
      else none

/-- R132, R182: with no ask of its own waiting, the controller asks for the access of the work that began
first among those that have one to ask. -/
def State.expoAsk (s : State) : State :=
  if s.asking isExpoJob then s
  else match s.expo.tasks.findSome? s.taskAsk with
    | none => s
    | some (a, f) => (s.onExpo f).ask a

def State.beginTask (t : ExpoTask) (s : State) : State := s.onExpo fun e => { e with tasks := e.tasks ++ [t] }

def State.endTask (t : ExpoTask) (s : State) : State :=
  s.onExpo fun e => { e with tasks := e.tasks.filter fun u => !decide (u = t) }

/-! ### The ring (R118, R119) -/

def State.onRing (number : Nat) (f : RingEntry → RingEntry) (s : State) : State :=
  s.onExpo fun e => { e with ring := e.ring.map fun r => if r.number = number then f r else r }

/-- The oldest PENDING descriptor (section 7.2). -/
def State.candidate (s : State) : Option RingEntry := s.expo.ring.find? fun r => decide (r.state = .pending)

/-- R119: outstanding descriptors, and those a post of P would leave outstanding. -/
def ExposureCtl.outstanding (e : ExposureCtl) : Nat := (e.accepted + 256 - e.consume) % 256
def ExposureCtl.wouldBe (e : ExposureCtl) (p : Nat) : Nat := (p + 256 - e.consume) % 256

/-- R119: a post word is taken. -/
def State.takePost (p : Nat) (s : State) : State :=
  let o := s.expo.outstanding
  let n := s.expo.wouldBe p
  if o ≤ n ∧ n ≤ 8 then
    s.onExpo fun e =>
      { e with
        accepted := p
        ring := e.ring ++ (List.range (n - o)).map fun i => ⟨(e.accepted + i) % 256, .pending, none, false⟩ }
  else s.raise .ringFault

/-- R138, step 1: the consume count advances over the FINISHED descriptors at the head. -/
def ExposureCtl.advance (e : ExposureCtl) : ExposureCtl :=
  let n := (e.ring.takeWhile fun r => decide (r.state = .finished)).length
  { e with ring := e.ring.drop n, consume := (e.consume + n) % 256 }

/-! ### Reports (R137, Table 12-11) -/

def padTo (n : Nat) (b : List Byte) : List Byte := b ++ List.replicate (n - b.length) 0#8

/-- R128: rows expected, the sum of rows over the included segments. -/
def State.rowsExpected (s : State) (r : ExposureRecord) : Nat :=
  (r.map.segments.map fun p => match s.segment p.segment with
    | some e => e.rows
    | none => 0).sum

def TileCount.bytes (t : TileCount) : List Byte :=
  leBytes 1 t.tile ++ [0#8, 0#8, 0#8] ++ leBytes 4 t.saturated ++ leBytes 4 t.rejected ++ leBytes 4 t.faults

def excludedBytes (x : Nat × Exclusion) : List Byte := leBytes 1 x.1 ++ leBytes 1 x.2.code ++ [0#8, 0#8]

/-- The first fault's fields, 0 when absent (R204). -/
def firstFaultBytes : Option FirstFault → List Byte
  | some f => leBytes 1 f.kind.code ++ leBytes 1 f.segment ++ leBytes 2 f.row ++ leBytes 2 f.column
  | none => List.replicate 6 0#8

/-- The report bytes (Table 12-11). -/
def reportBytes (sequence tag product bank endCode reason applied expected : Nat) (c : Counters)
    (first : Option FirstFault) (included : List TileCount) (excluded : List (Nat × Exclusion)) : List Byte :=
  leBytes 4 sequence ++ leBytes 1 tag ++ leBytes 1 product ++ leBytes 1 bank ++ leBytes 1 endCode ++
    leBytes 1 reason ++ leBytes 1 (if first.isSome then 1 else 0) ++ leBytes 1 included.length ++
    leBytes 1 excluded.length ++ leBytes 4 applied ++ leBytes 4 expected ++
    leBytes 4 c.presented ++ leBytes 4 c.applied ++ leBytes 4 c.rejected ++ leBytes 4 c.saturated ++
    leBytes 4 c.dead ++ leBytes 4 c.offGrid ++ leBytes 4 c.full ++ leBytes 4 c.cellsLost ++
    leBytes 4 c.excludedBeats ++ leBytes 4 c.faultTotal ++ firstFaultBytes first ++ List.replicate 14 0#8 ++
    padTo 1024 (included.flatMap TileCount.bytes) ++ padTo 256 (excluded.flatMap excludedBytes)

/-- R125, R137: the report of a due entry as it stands when it is written. -/
def State.reportOf (s : State) (sequence : Nat) : ReportOf → List Byte
  | .rejected tag product bank reason excluded =>
    reportBytes sequence tag product bank rejectedCode reason.code 0 0 Counters.zero none [] excluded
  | .ended bank =>
    match s.recordOf bank with
    | none => []
    | some r =>
      reportBytes sequence r.tag r.product r.bank (match r.endStatus with
        | some e => e.code
        | none => 0) 0 r.rowMap.length (s.rowsExpected r) r.counters r.firstFault r.included r.excluded

/-- R137: a report becomes due. -/
def State.reportDue (d : ReportDue) (s : State) : State := s.onExpo fun e => { e with due := e.due ++ [d] }

/-- R125: the descriptor is rejected and its report is due. -/
def State.reject (number tag product bank : Nat) (reason : Rejection) (excluded : List (Nat × Exclusion))
    (s : State) : State :=
  (s.onRing number fun r => { r with due := true }).reportDue ⟨number, .rejected tag product bank reason excluded⟩

/-- R137: the controller begins to write the report that became due first. -/
def State.startReport (d : ReportDue) (rest : List ReportDue) (s : State) : State :=
  let sequence := (s.expo.reportSeq + 1) % 2 ^ 32
  let units := unitsOf Config.reportUnits (s.reportOf sequence d.source)
  ((s.onExpo fun e => { e with due := rest, report := some ⟨d, sequence, units, 0⟩ }).beginTask .report).expoAsk

/-- R138, step 4: the record of a bank is freed. -/
def State.freeRecord (bank : Nat) (s : State) : State :=
  s.onExpo fun e => { e with records := e.records.filter fun r => !decide (r.bank = bank), waitBank := false }

/-- R138: the last beat of a report has been granted. DESIGN CHOICE: its steps are one, so that no status block is
begun between the raise of EXPOSURE_DONE and the tile evaluation (log 39). -/
def State.finishDescriptor (w : ReportWrite) (s : State) : State :=
  let s := ((s.onExpo fun e => { e with report := none }).endTask .report).onRing w.due.number fun r =>
    { r with state := .finished, due := false }
  let s := (s.onExpo fun e => { e.advance with reportSeq := w.sequence }).raise .exposureDone
  match w.due.source with
  | .rejected _ _ _ _ _ => s
  | .ended bank =>
    match s.recordOf bank with
    | none => s
    | some r => ((s.evaluateHealth r.included).freeRecord bank).beginDeferred

/-! ### The end of an exposure (R129, R130, R133, R136) -/

/-- R136: an ended record with no slot other than FREE enters DRAINING and asks a flush of its product. -/
def State.drainCheck (bank : Nat) (s : State) : State :=
  match s.recordOf bank with
  | none => s
  | some r =>
    if r.state = .active ∧ r.endStatus.isSome ∧ s.slotsOf bank SlotState.isHeld = [] then
      (s.onRecord bank fun r => { r with state := .draining }).beginFlush (.drain bank) fun p => decide (p = r.product)
    else s

/-- R133, R42: the exposure on a bank ends as an abort does: one that has an end status keeps it, and the bank is
unbound with its held beats released as late beats. -/
def State.endAborted (bank : Nat) (s : State) : State :=
  (s.onRecord bank fun r =>
    { r with endStatus := match r.endStatus with
        | none => some .aborted
        | some e => some e }).unbind bank true

/-- R133, R46: the exposure on a bank is aborted; one that has timed out keeps its end status. DESIGN CHOICE: every slot
is freed before any is handed on (log 44). -/
def State.abortRecord (bank : Nat) (s : State) : State :=
  (((s.endAborted bank).freeUnapplied bank).handOn).drainCheck bank

/-- R130, R45: the completion timer of the exposure on a bank expires. DESIGN CHOICE: every COLLECTING slot closes before
a slot that a duplicate leaves FREE is handed on (log 44). -/
def State.expire (bank : Nat) (s : State) : State :=
  let s := (s.onRecord bank fun r => { r with endStatus := some .timedOut, elapsed := r.limit }).unbind bank true
  ((s.closeCollecting bank).handOn).drainCheck bank

/-- R129: the row map of the exposure on a bank is complete. DESIGN CHOICE: every COLLECTING slot closes before any slot
is handed on, by `State.finishRow` (log 44). -/
def State.completeExposure (bank : Nat) (s : State) : State :=
  let s := (s.onRecord bank fun r => { r with endStatus := some .complete }).unbind bank false
  s.closeCollecting bank

/-! ### Activation (R120 to R126) -/

/-- R120, R122, R146: whether an activation attempt for a candidate may begin now. -/
def State.mayAttempt (s : State) (c : RingEntry) : Bool :=
  decide (s.part = .planned) && !s.restartInHand && s.expo.activation.isNone && !c.due &&
    (c.mark.isSome ||
      (!s.loader.pendingMark && decide (s.expo.records.length < 2) && !s.expo.waitBank &&
        match s.expo.waitProduct with
        | some p => decide ((s.product p).mark = .none)
        | none => true))

/-- R120, R134: an attempt begins: the candidate is read, or finished at once when it carries the abort mark. -/
def State.attempt (c : RingEntry) (s : State) : State :=
  match c.mark with
  | some tag =>
    (s.onExpo fun e => { e with waitBank := false, waitProduct := none }).reject c.number tag 0 0 .abortedBeforeActive []
  | none =>
    ((s.onExpo fun e => { e with activation := some ⟨c.number, 0, false⟩, waitBank := false, waitProduct := none }).beginTask
      .activation).expoAsk

/-- R124: the tiles a descriptor selects. -/
def Descriptor.selects (d : Descriptor) (tile : Nat) : Bool := decide (d.count = 0) || d.tiles.contains tile

/-- R124: why a tile in use is excluded, none when it is included. -/
def State.nulling (s : State) (d : Descriptor) (tile : Nat) (t : TileEntry) : Option Exclusion :=
  if !d.selects tile then some .notSelected
  else if s.health tile = .quarantined then some .quarantined
  else if t.withdrawn then some .withdrawn
  else none

/-- R124: the included and the excluded tiles, ascending. -/
def State.nullTiles (s : State) (d : Descriptor) (p : Plan) : List Nat × List (Nat × Exclusion) :=
  let marked := (List.range p.tiles.length).filterMap fun i => (p.tiles[i]?).map fun t => (i, s.nulling d i t)
  (marked.filterMap fun x => if x.2.isNone then some x.1 else none,
   marked.filterMap fun x => x.2.map fun e => (x.1, e))

/-- R123, check 4: the fields of a descriptor lie in their ranges and its bank is defined. -/
def Descriptor.rangeOk (d : Descriptor) (p : Plan) : Bool :=
  decide (1 ≤ d.limit) && decide (d.exposureTime ≤ 4194303) && coordinate d.du && coordinate d.dv &&
    decide (p.bankBase d.bank ≠ 0) && decide (d.count ≤ 64)

/-- R126, R68, R85: the record a candidate activates with. -/
def activatedRecord (d : Descriptor) (number : Nat) (p : Plan) (q : ProductEntry) (included : List Nat)
    (excluded : List (Nat × Exclusion)) : ExposureRecord :=
  let segments := (List.range p.segments.length).filterMap fun i =>
    (p.segments[i]?).bind fun e => if included.contains e.tile then some (i, e) else none
  { state := .active, endStatus := none, number := number, tag := d.tag, product := d.product, bank := d.bank,
    exposureTime := d.exposureTime, transparency := d.transparency, du := d.du, dv := d.dv, capture := d.capture,
    limit := d.limit, elapsed := 0, included := included.map fun t => ⟨t, 0, 0, 0⟩, excluded := excluded,
    factors := segments.map fun x => (x.1, combinedFactor x.2.gain d.transparency),
    map := { segments := segments.map fun x =>
               ⟨x.1, x.2.orientation, x.2.x0 + d.du - q.px0, x.2.y0 + d.dv - q.py0⟩
             bin := q.bin, width := q.width, height := q.height, base := q.base },
    rowMap := [], counters := Counters.zero, firstFault := none }

/-- R62: the bias states of a bank are made unseeded. -/
def State.unseed (bank : Nat) (s : State) : State :=
  s.onPipe fun p => { p with bias := p.bias.mapIdx fun i b => if i / 256 = bank then ⟨false, 0⟩ else b }

/-- R126: a candidate that passes every check is activated, in one step. -/
def State.activate (d : Descriptor) (number : Nat) (r : ExposureRecord) (s : State) : State :=
  (((s.onExpo fun e => { e with records := e.records ++ [r] }).onRing number fun x =>
    { x with state := .active }).setBank d.bank ⟨true, false⟩).unseed d.bank

/-- R122 to R126, R146: the copy of a candidate is examined. -/
def State.examine (c : RingEntry) (d : Descriptor) (damaged : Bool) (s : State) : State :=
  let refuse (why : Rejection) (x : List (Nat × Exclusion)) : State :=
    s.reject c.number d.tag d.product d.bank why x
  if damaged ∨ d.marker ≠ Config.descriptorMarker then refuse .badDescriptor []
  else if (s.recordOf d.bank).isSome then s.onExpo fun e => { e with waitBank := true }
  else if d.product < 4 ∧ (s.product d.product).mark ≠ .none then
    s.onExpo fun e => { e with waitProduct := some d.product }
  else match s.loader.plan, s.productEntry d.product with
    | some p, some q =>
      if (s.product d.product).state ≠ .opened then refuse .notOpen []
      else if s.expo.records.any fun r => decide (r.tag = d.tag) then refuse .tagInUse []
      else if !d.rangeOk p then refuse .range []
      else
        let tiles := s.nullTiles d p
        if tiles.1 = [] then refuse .noSegments tiles.2
        else s.activate d c.number (activatedRecord d c.number p q tiles.1 tiles.2)
    | _, _ => refuse .notOpen []

/-- R121, R139: the candidate's read has ended: the conditions are tested again and the copy is discarded or
examined. The beats' deliveries are counted here (log 14). -/
def State.readDone (a : ActivationRead) (s : State) : State :=
  let got := s.deliverAll isDescriptorRead
  let units := gathered Config.descriptorUnits (got.1.filterMap fun x => match x.1 with
    | .descriptorRead k => some (k, x.2.1)
    | _ => none)
  let damaged := got.1.any fun x => decide (x.2.2 = .uncorrectable)
  let s := (got.2.onExpo fun e => { e with activation := none }).endTask .activation
  let s : State := match s.expo.ring.find? fun r => decide (r.number = a.number) with
    | none => s
    | some c =>
      if s.part ≠ .planned ∨ s.loader.pendingMark ∨ s.restartInHand ∨ a.discard ∨ c.mark.isSome ∨ c.state ≠ .pending then s
      else s.examine c (Descriptor.ofBytes (bytesOf units)) damaged
  s.expoAsk

/-! ### ABORT_EXPOSURE (R132, R134) -/

/-- The detail that names a descriptor (12.5). -/
def descriptorDetail (number : Nat) : Detail := ⟨.none, number, 0, 0, 0⟩

def State.onSearch (q : Option Search) (s : State) : State := s.onExpo fun e => { e with search := q }

/-- R132: the search goes on with the oldest PENDING descriptor it has not examined, or ends NOT_FOUND. -/
def State.searchNext (examined : List Nat) (s : State) : State :=
  match s.expo.ring.find? fun r => decide (r.state = .pending) && r.mark.isNone && !examined.contains r.number with
  | some r => (s.onSearch (some ⟨examined, r.number, false⟩)).expoAsk
  | none => (((s.onSearch none).endTask .search).reply .notFound Detail.zero).expoAsk

/-- R132: ABORT_EXPOSURE is taken. -/
def State.takeAbort (r : RequestRecord) (s : State) : State :=
  if s.part ≠ .planned then s.reply .noPlan Detail.zero
  else match s.expo.records.find? fun x => decide (x.tag = r.tag) with
    | some x =>
      if x.state = .active ∧ (x.endStatus = none ∨ x.endStatus = some .timedOut) then
        (s.abortRecord x.bank).reply .done (descriptorDetail x.number)
      else s.reply .badState (descriptorDetail x.number)
    | none => ((s.keepInHand 0).beginTask .search).searchNext []

/-- R132, R134: a read of the search is delivered. -/
def State.searchDelivered (q : Search) (number : Nat) (data : Word) (found : EccCondition) (s : State) : State :=
  let b := bytesOf [data]
  let wanted := match s.bus.inHand with
    | some r => r.record.tag
    | none => 0
  let here := s.expo.ring.any fun r => decide (r.number = number) && decide (r.state = .pending) && r.mark.isNone
  if found ≠ .uncorrectable ∧ field b 0 4 = Config.descriptorMarker ∧ field b 4 1 = wanted ∧ here then
    ((((s.onSearch none).endTask .search).onRing number fun r => { r with mark := some wanted }).reply .done
      (descriptorDetail number)).expoAsk
  else s.searchNext (q.examined ++ [number])

end Sys2Proof.Machine
end

