-- ==== Sys2Proof/Machine/Pixel.lean ====
section
/-! DEFINITION. The pixel pipeline (Chapter 4): taking a row, placing, classifying and handing on its pixels,
the merge decision on an entry (R99), and the end of the row. -/

namespace Sys2Proof.Machine

/-- The bias state of a bank and segment (R62). -/
def State.biasOf (s : State) (bank segment : Nat) : Bias := s.pipe.bias.getD (256 * bank + segment) ⟨false, 0⟩

/-- Image columns of a segment's row, A; 0 for a segment the plan does not have. -/
def State.imageWidth (s : State) (segment : Nat) : Nat :=
  match s.segment segment with
  | some e => e.width
  | none => 0

/-- The next received image pixel of a slot at or past a column (R44, R70). -/
def Slot.nextPixel (v : Slot) (column width : Nat) : Option (Nat × BitVec 16) :=
  v.pixels.find? fun p => decide (column ≤ p.1) && decide (p.1 < width)

/-- R44, R128, R129: the row finishes APPLYING: it is marked done, its slot becomes FREE and is handed on,
and a row map it completes ends the exposure. DESIGN CHOICE: the bank of an exposure so ended is unbound, its held
beats being released, before the freed slot is handed on (log 35). -/
def State.finishRow (a : Applying) (s : State) : State :=
  let v := s.slot a.slot
  let s := (s.onPipe fun p => { p with applying := none }).onRecord v.bank fun r =>
    { r with rowMap := r.rowMap ++ [(v.segment, v.row)] }
  let s := s.freeSlot a.slot
  let s : State := match s.recordOf v.bank with
    | none => s
    | some r =>
      if r.state = .active ∧ r.endStatus = none ∧ r.rowMap.length = s.rowsExpected r then s.completeExposure v.bank
      else s
  (s.handOn).drainCheck v.bank

/-- R70: the row finishes once no pixel of it waits and none is left to present. -/
def State.rowCheck (s : State) : State :=
  match s.pipe.applying with
  | none => s
  | some a =>
    let v := s.slot a.slot
    if a.pixel.isNone ∧ (v.nextPixel a.column (s.imageWidth v.segment)).isNone then s.finishRow a else s

/-- R44, R63 to R65: the head of the ready queue becomes APPLYING and updates its bias state. -/
def State.applyRow (i : Nat) (rest : List Nat) (s : State) : State :=
  let v := s.slot i
  let seg := s.segment v.segment
  let step (e : SegmentEntry) : Bias :=
    biasStep e.weight e.fixedBias (s.biasOf v.bank v.segment) (overscanMean e.overscan v.oscSum v.oscCount)
  let b := (seg.map step).getD (s.biasOf v.bank v.segment)
  let s := (s.setSlot i { v with state := .applying }).onCapture fun c => { c with ready := rest }
  State.rowCheck (s.onPipe fun p =>
    { bias := p.bias.set (256 * v.bank + v.segment) b, applying := some ⟨i, 0, biasAdu b.b16, none⟩ })

/-! ### The merge decision on an entry (R99) -/

/-- The clip settings installed for a product (R75). -/
def State.clipOf (s : State) (product : Nat) : Clip :=
  match s.productEntry product with
  | some e => ⟨e.clipMin, e.clipFloor, e.clipShift⟩
  | none => ⟨0, 0, 0⟩

/-- R73 to R77: the exposure counters a decision moves. -/
def Counters.decided (c : Counters) : Decided → Counters
  | .saturated => { c with saturated := c.saturated + 1 }
  | .full => { c with full := c.full + 1 }
  | .rejected => { c with rejected := c.rejected + 1 }
  | .applied => { c with applied := c.applied + 1 }

/-- R73, R75, R127: the per-tile counters a decision moves. -/
def TileCount.decided (t : TileCount) : Decided → TileCount
  | .saturated => { t with saturated := satAdd t.saturated 1 }
  | .rejected => { t with rejected := satAdd t.rejected 1 }
  | .full | .applied => t

def State.countDecision (px : Pixel) (d : Decided) (s : State) : State :=
  let tile := (s.segment px.segment).map fun e => e.tile
  s.onRecord px.bank fun r =>
    { r with
      counters := r.counters.decided d
      included := r.included.map fun t => if some t.tile = tile then t.decided d else t }

/-- R99: the merge decision is made on the entry, which becomes DIRTY and moves to the tail of the use order;
the pixel is accepted. -/
def State.decidePixel (px : Pixel) (i : Nat) (s : State) : State :=
  match s.entry i with
  | none => s
  | some e =>
    let out := mergeDecision (s.clipOf px.product) px.tag px.kind e.record
    let e' := { e with
      record := out.1, state := EntryState.dirty
      writeOutstanding := e.writeOutstanding || decide (e.state = .writing) }
    (((s.setEntry i (some e')).touch i).countDecision px out.2).setWaiting none

/-- R96, R111, R113: a pixel is offered to the merge buffer: it hits, it misses and allocates, or it waits. -/
def State.offerPixel (px : Pixel) (s : State) : State :=
  if s.cellLocked px.addr then s.setWaiting (some (px, .access))
  else match s.entryOf px.addr with
    | some i =>
      if s.bus.heldCells.any fun b => decide (b.unit = px.addr) then s.setWaiting (some (px, .access))
      else s.decidePixel px i
    | none => s.allocate px

/-- A waiting pixel is offered again when what it waits for may have come (R96, R97, R111, R113). DESIGN CHOICE: one that
waited for a lock still waits at its end while a frame bus write to the cell has not completed (log 47). -/
def State.pixelRetry (s : State) : State :=
  let t : State := match s.waitingPixel with
    | none => s
    | some (_, .fill) => s
    | some (px, .allocation) => s.allocate px
    | some (px, .access) => if s.cellLocked px.addr || s.writeUnderway px.addr then s else (s.offerPixel px).rowCheck
  t.askFill

/-! ### Presenting a pixel (R70, R71) -/

/-- The value of a frame at a column, and whether it was loaded (R49, R56). -/
def FrameHold.at (h : FrameHold) (column : Nat) : Option (BitVec 16) :=
  if h.status = some .loaded then some (h.row.getD column 0#16) else none

def Counters.classified (c : Counters) (offGrid dead : Bool) : Counters :=
  { c with
    presented := c.presented + 1
    offGrid := if offGrid then c.offGrid + 1 else c.offGrid
    dead := if dead then c.dead + 1 else c.dead }

/-- R49, R56, R66 to R69, R71: what a pixel of the row that lies on the grid becomes: dead (none), saturated,
or calibrated. -/
def classify (v : Slot) (e : SegmentEntry) (r : ExposureRecord) (bias column : Nat) (raw : Nat) : Option PixelKind :=
  let flat := v.flat.at column
  let g := match flat with
    | some x => x.toNat
    | none => 16384
  if flat = some 0#16 then none
  else if e.satLevel ≤ raw then some .saturated
  else
    let z := match v.zero.at column with
      | some x => zeroLevel x
      | none => 0
    let d := match v.dark.at column with
      | some x => x.toNat
      | none => 0
    some (calibrate raw bias z (darkCharge d r.exposureTime) g (assocGet 0 v.segment r.factors))

/-- R70, R71, R86: the pixel at a column is placed and classified, and handed on if it touches a cell. -/
def State.presentPixel (a : Applying) (column : Nat) (raw : BitVec 16) (s : State) : State :=
  let v := s.slot a.slot
  let s := s.onPipe fun p => { p with applying := some { a with column := column + 1 } }
  match s.recordOf v.bank, s.segment v.segment with
  | some r, some e =>
    let cell := (r.map.segments.find? fun x => decide (x.segment = v.segment)).bind fun x => r.map.cell x column v.row
    match cell with
    | none => State.rowCheck (s.onRecord v.bank fun r => { r with counters := r.counters.classified true false })
    | some cell =>
      match classify v e r a.bias column raw.toNat with
      | none => State.rowCheck (s.onRecord v.bank fun r => { r with counters := r.counters.classified false true })
      | some kind =>
        let px : Pixel :=
          { addr := cellAddress r.map.base cell, product := r.product, tag := v.tag, bank := v.bank,
            segment := v.segment, row := v.row, column := column, kind := kind }
        ((s.onRecord v.bank fun r => { r with counters := r.counters.classified false false }).offerPixel px).rowCheck
  | _, _ => s.rowCheck

/-! ### The fill (R97, R98) -/

/-- R98: the fill of the pixel's cell was uncorrectable: cells_lost and CELL_LOST against its exposure. -/
def State.chargeLost (px : Pixel) (s : State) : State :=
  (s.onRecord px.bank fun r => { r with counters := { r.counters with cellsLost := r.counters.cellsLost + 1 } }).recordFault
    px.bank .cellLost px.segment px.row px.column

/-- R97, R98: the fill of a FILLING entry is delivered: held reads are served, then the waiting pixel's
decision is made. -/
def State.fillDelivered (i : Nat) (e : Entry) (data : Word) (found : EccCondition) (s : State) : State :=
  let lost := decide (found = .uncorrectable)
  let record := if lost then CellRecord.fresh else CellRecord.ofWord data
  let s := s.setEntry i (some { e with
    record := record, state := if lost then .dirty else .clean, fillAsked := false })
  let s := s.serveReads e.addr record.word
  match s.waitingPixel with
  | some (px, .fill) =>
    let s : State := if lost then s.chargeLost px else s
    (s.decidePixel px i).rowCheck
  | _ => s

end Sys2Proof.Machine
end

