-- ==== Sys2Proof/Machine/ProductUnit.lean ====
section
/-! DEFINITION. The product controller and the region engine (Chapter 8): the product requests, the clear and
render jobs and their halt. -/

namespace Sys2Proof.Machine

def isEngineJob : Job → Bool
  | .clearWrite | .renderRead _ | .renderWrite _ => true
  | _ => false

def isClearWrite : Job → Bool
  | .clearWrite => true
  | _ => false

def isRenderRead : Job → Bool
  | .renderRead _ => true
  | _ => false

def isRenderWrite : Job → Bool
  | .renderWrite _ => true
  | _ => false

def State.onEngine (f : Engine → Engine) (s : State) : State := s.onProd fun c => { c with engine := f c.engine }

/-- The values that the output beat being built will carry, 1 to 4; 0 when nothing is left to write (R155). -/
def Engine.beatSize (e : Engine) : Nat := min 4 (e.total - 4 * e.outUnit)

/-- R155: the byte enables of an output beat of `n` values. -/
def beatEnables (n : Nat) : BitVec 8 := BitVec.ofNat 8 (2 ^ (2 * n) - 1)

/-- R155: the output beat, each value at its position. -/
def beatData (values : List (Nat × BitVec 16)) : Word :=
  viewData ((List.range 4).map fun p => assocGet (0#16) p values)

/-- R151, R154, R155: with no ask of its own waiting, a job that is not being halted asks for its next access. -/
def State.engineAsk (s : State) : State :=
  let e := s.prod.engine
  if s.asking isEngineJob || e.halting.isSome then s
  else match e.kind with
    | none => s
    | some .clear =>
      if e.next < e.total then s.ask ⟨.clearWrite, cellAddress e.base e.next, some ⟨0xFF#8, CellRecord.empty.word⟩⟩
      else s
    | some .render =>
      if 0 < e.beatSize ∧ e.values.length = e.beatSize then
        s.ask ⟨.renderWrite e.beatSize, e.outBase + 8 * e.outUnit, some ⟨beatEnables e.beatSize, beatData e.values⟩⟩
      else if e.next < e.total ∧ e.next / 4 = e.outUnit then
        (s.onEngine fun x => { x with next := x.next + 1 }).ask ⟨.renderRead e.next, cellAddress e.base e.next, none⟩
      else s

/-- R150: a job starts. -/
def State.startJob (kind : JobKind) (p : Nat) (q : ProductEntry) (s : State) : State :=
  let state : ProductState := match kind with
    | .clear => .clearing
    | .render => .rendering
  ((s.setProduct p { s.product p with state := state }).onEngine fun _ =>
    { kind := some kind, product := p, total := q.cells, done := 0, next := 0, base := q.base, rs := q.rs,
      outBase := q.outBase, outUnit := 0, values := [], halting := none }).engineAsk

/-- R151, R155: the grant of a clear write. -/
def State.clearGranted (s : State) : State :=
  (s.onEngine fun e => { e with done := e.done + 1, next := e.next + 1 }).engineAsk

/-- R155: the grant of an output write of `n` values. -/
def State.renderGranted (n : Nat) (s : State) : State :=
  (s.onEngine fun e => { e with done := e.done + n, outUnit := e.outUnit + 1, values := [] }).engineAsk

/-- A reply of a product request: the index as read and the state when taken (R143, 12.5). -/
def productDetail (index taken value : Nat) : Detail := ⟨.product, index, 0, taken, value⟩

/-- The product's state code when a request naming it is taken; 0 for an index of 4 or more (R143). -/
def State.takenCode (s : State) (p : Nat) : Nat := if p < 4 then (s.product p).state.code else 0

/-- The state code kept with the request in hand (R143). -/
def State.keptCode (s : State) : Nat :=
  match s.bus.inHand with
  | some q => match q.stage with
    | .working taken => taken
    | _ => 0
  | none => 0

/-- R158: what a halted job leaves its product. -/
def haltedState (kind : JobKind) (cause : HaltCause) : ProductState :=
  match cause, kind with
  | .discard, _ => .empty
  | _, .clear => .empty
  | _, .render => .frozen

/-- R158, R149, R159: the halt is complete. -/
def State.finishHalt (kind : JobKind) (cause : HaltCause) (s : State) : State :=
  let e := s.prod.engine
  let state := haltedState kind cause
  let s := (s.setProduct e.product ⟨state, .none⟩).onEngine fun x => { x with kind := none, halting := none }
  match cause with
  | .restart => s
  | .request => s.reply .done (productDetail e.product state.code e.done)
  | .discard => s.reply .done (productDetail e.product s.keptCode 0)

/-- R151, R156: the job ends. -/
def State.endJob (kind : JobKind) (s : State) : State :=
  let state : ProductState := match kind with
    | .clear => .opened
    | .render => .frozen
  ((s.setProduct s.prod.engine.product ⟨state, .none⟩).onEngine fun x => { x with kind := none }).raise .jobDone

/-- R151, R156, R158: with no access asked or in flight, a halt is complete, and a job whose writes are all
granted ends. -/
def State.engineCheck (s : State) : State :=
  let e := s.prod.engine
  match e.kind with
  | none => s
  | some k =>
    if s.asking isEngineJob || s.flying isEngineJob then s
    else match e.halting with
      | some cause => s.finishHalt k cause
      | none => if e.done = e.total then s.endJob k else s

/-- R158: a job is halted. -/
def State.halt (cause : HaltCause) (s : State) : State :=
  State.engineCheck (State.withdraw isEngineJob (s.onEngine fun e => { e with halting := some cause, values := [] }))

/-- R154, R157, R158: a cell record read by the render job is delivered. -/
def State.renderDelivered (cell : Nat) (data : Word) (found : EccCondition) (s : State) : State :=
  if s.prod.engine.halting.isSome then s.engineCheck
  else
    let r := CellRecord.ofWord data
    let v := if found = .uncorrectable then Config.blank else normalise r.sum r.hits s.prod.engine.rs
    (s.onEngine fun e => { e with values := e.values ++ [(cell % 4, v)] }).engineAsk

/-! ### The product requests -/

/-- R142: an active exposure record names the product. -/
def State.targeted (s : State) (p : Nat) : Bool := s.expo.records.any fun r => decide (r.product = p)

/-- The region engine is RUNNING (R150). -/
def State.engineRuns (s : State) : Bool := s.prod.engine.kind.isSome

/-- R158: the job's last write has been granted, so the job ends by R151 or R156 whatever halt follows (log 17). -/
def State.jobEnding (s : State) : Bool :=
  s.engineRuns && s.prod.engine.halting.isNone && decide (s.prod.engine.done = s.prod.engine.total)

/-- R144: OPEN_PRODUCT is taken. -/
def State.takeOpen (r : RequestRecord) (s : State) : State :=
  let p := r.product
  let answer (o : ReplyOutcome) (value : Nat) (t : State) : State := t.reply o (productDetail p (s.takenCode p) value)
  if s.part ≠ .planned then answer .noPlan 0 s
  else match (if p < 4 then s.productEntry p else none) with
    | none => answer .badArgument 0 s
    | some q =>
      if r.argument ≠ argumentKeep ∧ r.argument ≠ argumentClear then answer .badArgument 0 s
      else if (s.product p).state ≠ .empty then answer .badState 0 s
      else if s.engineRuns then answer .busy 0 s
      else if r.argument = argumentKeep then answer .done 0 (s.setProduct p { s.product p with state := .opened })
      else answer .accepted q.cells (s.startJob .clear p q)

/-- R145: FREEZE_PRODUCT is taken; the freeze completes with its flush. -/
def State.takeFreeze (r : RequestRecord) (s : State) : State :=
  let p := r.product
  let answer (o : ReplyOutcome) : State := s.reply o (productDetail p (s.takenCode p) 0)
  if s.part ≠ .planned then answer .noPlan
  else if 4 ≤ p then answer .badArgument
  else if (s.product p).state ≠ .opened then answer .badState
  else if s.targeted p then answer .busy
  else ((s.keepInHand (s.takenCode p)).setProduct p ⟨.opened, .freezing⟩).beginFlush (.freeze p) fun x => decide (x = p)

/-- R148: THAW_PRODUCT is taken. -/
def State.takeThaw (r : RequestRecord) (s : State) : State :=
  let p := r.product
  let answer (o : ReplyOutcome) (t : State) : State := t.reply o (productDetail p (s.takenCode p) 0)
  if s.part ≠ .planned then answer .noPlan s
  else if 4 ≤ p then answer .badArgument s
  else if (s.product p).state = .rendering then answer .busy s
  else if (s.product p).state ≠ .frozen then answer .badState s
  else answer .done (s.setProduct p ⟨.opened, .none⟩)

/-- R153: RENDER_PRODUCT is taken. -/
def State.takeRender (r : RequestRecord) (s : State) : State :=
  let p := r.product
  let answer (o : ReplyOutcome) (value : Nat) (t : State) : State := t.reply o (productDetail p (s.takenCode p) value)
  if s.part ≠ .planned then answer .noPlan 0 s
  else match (if p < 4 then s.productEntry p else none) with
    | none => answer .badArgument 0 s
    | some q =>
      if q.outBase = 0 then answer .badArgument 0 s
      else if (s.product p).state ≠ .frozen ∧ (s.product p).state ≠ .rendering then answer .badState 0 s
      else if s.engineRuns then answer .busy 0 s
      else answer .accepted q.cells (s.startJob .render p q)

/-- R149: DISCARD_PRODUCT is taken; an OPEN product's discard completes with its entries (R106). -/
def State.takeDiscard (r : RequestRecord) (s : State) : State :=
  let p := r.product
  let answer (o : ReplyOutcome) (t : State) : State := t.reply o (productDetail p (s.takenCode p) 0)
  if s.part ≠ .planned then answer .noPlan s
  else if 4 ≤ p then answer .badArgument s
  else if s.targeted p then answer .busy s
  else
    let kept := s.keepInHand (s.takenCode p)
    match (s.product p).state with
    | .empty => answer .done s
    | .clearing => kept.halt .discard
    | .opened => kept.setProduct p ⟨.opened, .discarding⟩
    | .frozen => answer .done (s.setProduct p ⟨.empty, .none⟩)
    | .rendering => kept.halt .discard

/-- R159: HALT_JOB is taken. -/
def State.takeHalt (s : State) : State :=
  if s.part ≠ .planned then s.reply .noPlan Detail.zero
  else if s.engineRuns then (s.keepInHand 0).halt .request
  else s.reply .badState Detail.zero

end Sys2Proof.Machine
end

