-- ==== Sys2Proof/Machine/Settle.lean ====
section
/-! DEFINITION. What follows within a step once its event has been dealt with: held cell beats, flushes,
discards, the waiting pixel and the parts of a RESTART. -/

namespace Sys2Proof.Machine

/-- R104, R105, R108: a completed flush is reported to whoever asked for it. -/
def State.flushDone (s : State) (f : Flush) : State :=
  match f.asker with
  | .drain bank =>
    match s.recordOf bank with
    | none => s
    | some r => s.reportDue ⟨r.number, .ended bank⟩
  | .freeze p =>
    ((s.dropEntries fun e => decide (e.product = p)).setProduct p ⟨.frozen, .none⟩).reply .done
      (productDetail p s.keptCode 0)
  | .restart => s

/-- R103: the flushes whose entries are all settled complete. DESIGN CHOICE: those that complete together do so in the
order they started (log 42). -/
def State.flushAdvance (s : State) : State :=
  let done := s.merge.flushes.filter fun f => f.complete
  done.foldl State.flushDone (s.onMerge fun m => { m with flushes := m.flushes.filter fun f => !f.complete })

/-- R106: the entries of a product that have no granted write outstanding can be dropped. -/
def droppable (p : Nat) (e : Entry) : Bool :=
  decide (e.product = p) && !decide (e.state = .writing) && !e.writeOutstanding

/-- R106, R149: a discard drops the product's entries and is done when none is left. -/
def State.discardStep (s : State) (p : Nat) : State :=
  if (s.product p).mark = .discarding then
    let s := s.dropEntries (droppable p)
    if s.merge.entries.any fun e => e.any fun x => decide (x.product = p) then s
    else (s.setProduct p ⟨.empty, .none⟩).reply .done (productDetail p s.keptCode 0)
  else s

def State.discardAdvance (s : State) : State := (List.range 4).foldl State.discardStep s

/-- R178: every block's part of the RESTART is complete (R24, R47, R60, R78, R108, R139, R167). -/
def State.restartComplete (s : State) (r : RestartProgress) : Bool :=
  r.mergeDone && s.loader.load.isNone && (s.capture.slots.all fun v => decide (v.state = .free)) &&
    s.fetch.isEmpty && !s.flying isCalDiscard && s.pipe.applying.isNone && s.expo.records.isEmpty &&
    s.prod.engine.kind.isNone

/-- R62, R108: once the pipeline holds no row, the bias states are unseeded and the flush of all four products
starts. -/
def State.restartFlush (r : RestartProgress) (s : State) : State :=
  if s.pipe.applying.isNone ∧ r.flushStarted = false then
    ((s.onBus fun f => { f with restart := some { r with flushStarted := true } }).onPipe fun p =>
      { p with bias := List.replicate 512 ⟨false, 0⟩ }).beginFlush .restart fun _ => true
  else s

/-- R108: when every flush has completed, every held entry is dropped. -/
def State.restartDrop (r : RestartProgress) (s : State) : State :=
  if r.flushStarted = true ∧ r.mergeDone = false ∧ s.merge.flushes = [] then
    (s.dropEntries fun _ => true).onBus fun f => { f with restart := some { r with mergeDone := true } }
  else s

/-- R178: with every part complete the reply DONE is handed over. -/
def State.restartReply (r : RestartProgress) (s : State) : State :=
  if s.restartComplete r then (s.onBus fun f => { f with restart := none }).reply .done Detail.zero else s

/-- R178: the RESTART in hand goes as far as it can. -/
def State.restartAdvance (s : State) : State :=
  match s.bus.restart with
  | none => s
  | some r =>
    let s := (s.restartFlush r).flushAdvance
    match s.bus.restart with
    | none => s
    | some r =>
      let s := s.restartDrop r
      match s.bus.restart with
      | none => s
      | some r => s.restartReply r

/-- What an event lets the merge buffer and a RESTART do. -/
def State.mergeSettle (s : State) : State :=
  s.cellsAdvance.flushAdvance.discardAdvance.pixelRetry.flushAdvance.restartAdvance

end Sys2Proof.Machine
end

