-- ==== Sys2Proof/WellFormed.lean ====
section
/-! DEFINITION. Which commands name something the part's bus and banks can have. -/

namespace Sys2Proof

/-- A burst has 1 to 16 beats and a beat's index lies below its burst's length (R169). -/
def beatWellFormed (index length : Nat) : Bool :=
  decide (1 ≤ length) && decide (length ≤ 16) && decide (index < length)

/-- The check of a whole command. There are two raw banks (section 2.1). -/
def Instr.wellFormed : Instr → Bool
  | .frameBusReadBeat _ _ index length => beatWellFormed index length
  | .frameBusWriteBeat _ _ index length _ _ => beatWellFormed index length
  | .rawWriteBeat _ _ index length _ _ => beatWellFormed index length
  | .cellReadBeat _ _ index length => beatWellFormed index length
  | .cellWriteBeat _ _ index length _ _ => beatWellFormed index length
  | .protectedWriteBeat _ _ index length _ _ => beatWellFormed index length
  | .lockedRead _ _ _ index length _ _ => beatWellFormed index length
  | .viewReadBeat _ _ index length => beatWellFormed index length
  | .viewWriteBeat _ _ index length _ _ => beatWellFormed index length
  | .completionTimerExpiry bank => decide (bank < 2)
  | .resetAssert | .resetRelease _ _ _ | .frameBusReadDelivered _ | .frameBusWriteComplete _
  | .holdLimitExpiry _ | .viewPositionDelivered _ | .requestWord | .postWord | .acknowledgeWord
  | .maskWord | .commitPlan | .planBodyBeatDelivered _ | .openProduct | .freezeProduct
  | .thawProduct | .renderProduct | .discardProduct | .haltJob | .abortExposure | .abortSearchReadDelivered
  | .releaseTile | .restart | .portGrant _ | .writeBackChoice | .writeBackComplete _ | .rowApplyStart
  | .pixelPresent | .mergeFillDelivered | .calFetchBeatDelivered _ | .activationAttempt
  | .descriptorReadDone | .reportWriteStart | .clearWriteComplete _ | .renderReadDelivered _
  | .renderWriteComplete _ | .replyWriteStart | .replyWriteComplete | .statusWriteStart
  | .statusWriteComplete | .requestRecordReadDelivered => true

end Sys2Proof
end

