-- ==== Sys2Proof/Machine/Bus.lean ====
section
/-! DEFINITION. The bus front (Chapter 9): taking beats, routing, locked pairs, stalled masters, and the
settling that follows an event. -/

namespace Sys2Proof.Machine

/-! ### Which beats wait (R169, R173) -/

/-- A beat of the master waits for the port's grant (R169, last case). -/
def Ask.waitsFor (m : Nat) (a : Ask) : Bool :=
  match a.job with
  | .busRead b => decide (b.master = m)
  | .busWrite b ready => decide (b.master = m) && !ready
  | .viewRead v => decide (v.beat.master = m)
  | _ => false

/-- R169: a beat of the master is held, so the master's later beats are not taken. -/
def State.masterHeld (s : State) (m : Nat) : Bool :=
  (s.capture.held.any fun h => decide (h.beat.master = m)) ||
  (s.bus.heldCells.any fun b => decide (b.master = m)) ||
  (s.bus.lockWaiters.any fun b => decide (b.master = m)) ||
  (s.bus.views.any fun v => decide (v.beat.master = m)) ||
  s.port.asks.any fun a => a.waitsFor m

/-- R172: a beat of a locked transaction that is not a read of one beat. -/
def BusBeat.refusedLocked (b : BusBeat) : Bool := b.locked && (b.write || decide (b.length ≠ 1))

/-- R173: the beat must wait for the end of the lock that stands: a locked read, or a beat of another master to the
locked unit. A refused locked transaction does not wait (R172). DESIGN CHOICE: this is asked of a beat as it is taken, and
not of one already held for another reason when the lock was taken (log 46). -/
def State.lockBlocks (s : State) (b : BusBeat) : Bool :=
  match s.bus.lock with
  | none => false
  | some l => !b.refusedLocked && (b.locked || (decide (b.master ≠ l.master) && decide (b.unit = l.unit)))

/-! ### Raw writes (R26 to R28) -/

/-- R27, case 2: the beat falls outside every row of the plan. -/
def State.isStray (s : State) (x : RawPlace) : Bool :=
  match s.segment x.segment with
  | none => true
  | some e => decide (e.rows ≤ x.row) || decide (e.width + e.overscan ≤ x.column)

/-- R27, case 3: the segment's tile is excluded from the exposure. -/
def State.isExcluded (s : State) (r : ExposureRecord) (segment : Nat) : Bool :=
  match s.segment segment with
  | none => false
  | some e => r.excluded.any fun x => decide (x.1 = e.tile)

/-- R27, R28: a beat that no slot takes completes: stored under CAPTURE, and without a store otherwise. -/
def State.completeUnused (capture : Bool) (b : BusBeat) (s : State) : State :=
  if capture then s.askStore false b else s.finishWrite b

/-- The hold limit of the plan in force (R41). -/
def State.holdLimit (s : State) : Nat :=
  match s.loader.plan with
  | some p => p.holdLimit
  | none => 0

/-- The base of a bank of the plan in force (R6). -/
def State.bankBase (s : State) (bank : Nat) : Nat :=
  match s.loader.plan with
  | some p => p.bankBase bank
  | none => 0

/-- R26 to R28: a write beat in the window of a raw bank. -/
def State.rawWrite (bank : Nat) (b : BusBeat) (s : State) : State :=
  if (s.bank bank).bound = false then (s.countUnbound (s.bank bank).late).askStore false b
  else match s.recordOf bank with
    | none => (s.countUnbound (s.bank bank).late).askStore false b
    | some r =>
      let x := rawPlace (b.unit - s.bankBase bank)
      if b.enables = 0#8 then s.completeUnused r.capture b
      else if s.isStray x then
        (s.onCapture fun c => { c with stray := satAdd c.stray 1 }).completeUnused r.capture b
      else if s.isExcluded r x.segment then
        (s.onRecord bank fun r =>
          { r with counters := { r.counters with excludedBeats := satAdd r.counters.excludedBeats 1 } }).completeUnused
          r.capture b
      else s.captureBeat
        { beat := b, bank := bank, segment := x.segment, row := x.row, column := x.column,
          limit := s.holdLimit, arriving := true }

/-! ### Routing (R170) -/

/-- R161, R165: a write beat that is not stored: counted and noticed when it enables a byte. -/
def State.protectedWrite (b : BusBeat) (s : State) : State :=
  if b.enables = 0#8 then s.finishWrite b
  else ((s.onBus fun f => { f with protectCount := satAdd f.protectCount 1 }).raise .protect).finishWrite b

/-- R170, order 3: a write in the plan area; into the body during a load it marks the load changed (R13). -/
def State.planAreaWrite (b : BusBeat) (s : State) : State :=
  (if s.inPlanBody b.unit && decide (b.enables ≠ 0#8) then s.markChanged else s).askStore false b

/-- R109, R110, R111, R161: a beat in the accumulator region of a product. -/
def State.cellRegion (product : Nat) (b : BusBeat) (s : State) : State :=
  match (s.product product).state with
  | .empty | .clearing => if b.write then s.askStore false b else s.askRead b
  | .opened => if b.write && decide (b.enables = 0#8) then s.finishWrite b else s.cellBeat b
  | .frozen | .rendering => if b.write then s.protectedWrite b else s.askRead b

/-- R163, R164: a read beat in the view region of a product starts at the position of its unit. -/
def State.viewRead (product : Nat) (b : BusBeat) (s : State) : State :=
  match s.productEntry product with
  | none => s.askRead b
  | some e =>
    s.viewAdvance 4 { beat := b, product := product, total := e.cells, base := e.base,
                      first := (b.unit - e.viewBase) / 2, values := [], holdDue := b.locked }

/-- R170: a beat is carried out by the first row of the table that applies; rows 1 and 2 to 8. -/
def State.routeBeat (b : BusBeat) (s : State) : State :=
  match s.route b.unit with
  | .beyond => s.respond b .error
  | .ordinary => if b.write then s.askStore false b else s.askRead b
  | .planArea => if b.write then s.planAreaWrite b else s.askRead b
  | .raw bank => if b.write then s.rawWrite bank b else s.askRead b
  | .cell product => s.cellRegion product b
  | .view product => if b.write then s.protectedWrite b else s.viewRead product b

/-- R172: a locked read takes the lock. -/
def State.takeLock (b : BusBeat) (s : State) : State :=
  s.onBus fun f => { f with lock := some ⟨b.master, b.unit, false⟩ }

/-- R171 to R173: a beat is taken: refused, held on a lock, answered as beyond fitted DRAM, or routed. -/
def State.takeCore (b : BusBeat) (s : State) : State :=
  if b.refusedLocked then s.respond b .error
  else if s.lockBlocks b then s.onBus fun f => { f with lockWaiters := f.lockWaiters ++ [b] }
  else if s.fitted ≤ b.unit then s.respond b .error
  else if b.locked then (s.takeLock b).routeBeat b
  else s.routeBeat b

/-- R173: the beat is the pair's write of the lock. -/
def Lock.isPair (l : Lock) (b : BusBeat) : Bool :=
  b.write && !b.locked && decide (b.length = 1) && decide (b.unit = l.unit)

/-- R173: the next beat of a master; the locking master's next transaction settles the pair: its write is
taken as the pair's, and anything else releases the lock and follows the beats held on it. -/
def State.takeBeat (b : BusBeat) (s : State) : State :=
  match s.bus.lock with
  | none => s.takeCore b
  | some l =>
    if b.master = l.master ∧ l.pairTaken = false then
      if l.isPair b then
        (s.onBus fun f => { f with lock := some { l with pairTaken := true } }).takeCore { b with pair := true }
      else s.endLock.onBus fun f => { f with lockWaiters := f.lockWaiters ++ [b] }
    else s.takeCore b

/-! ### Settling -/

/-- The first beat of the list that `pick` accepts, and the list without it. -/
def takeFirst (pick : BusBeat → Bool) : List BusBeat → Option (BusBeat × List BusBeat)
  | [] => none
  | b :: rest => if pick b then some (b, rest) else (takeFirst pick rest).map fun r => (r.1, b :: r.2)

/-- R169, R173: the beats that a lock or a stalled master keeps waiting are taken as far as they can be;
`n` bounds how many. -/
def State.retake : Nat → State → State
  | 0, s => s
  | n + 1, s =>
    match takeFirst (fun b => !s.lockBlocks b) s.bus.lockWaiters with
    | some (b, rest) =>
      State.retake n ((s.onBus fun f => { f with lockWaiters := rest }).takeCore b).mergeSettle
    | none =>
      match takeFirst (fun b => !s.masterHeld b.master) s.bus.stalled with
      | some (b, rest) => State.retake n ((s.onBus fun f => { f with stalled := rest }).takeBeat b).mergeSettle
      | none => s

/-- What follows an event within its step. -/
def State.settle (s : State) : State :=
  let s := s.mergeSettle
  s.retake (s.bus.lockWaiters.length + 2 * s.bus.stalled.length)

/-- R169: a beat arrives: it stalls behind a held beat of its master, or is taken. -/
def State.arrive (b : BusBeat) (s : State) : State :=
  if s.masterHeld b.master || (s.bus.stalled.any fun x => decide (x.master = b.master)) then
    s.onBus fun f => { f with stalled := f.stalled ++ [b] }
  else (s.takeBeat b).settle

/-- A beat command: a beat no transaction has stops the part; while RESET is asserted nothing is taken (R180). -/
def State.present (b : BusBeat) (s : State) : Host.Outcome State Fault Refusal :=
  if beatWellFormed b.index b.length = false then .fault .malformedBeat
  else if s.inReset then .next s
  else .next (s.arrive b)

/-- A read beat of a transaction without the lock attribute. -/
def readBeat (master : Nat) (addr : BitVec 36) (index length : Nat) : BusBeat :=
  { master := master, write := false, locked := false, addr := addr, index := index, length := length,
    enables := 0#8, data := 0#64, pair := false }

/-- A write beat of a transaction without the lock attribute. -/
def writeBeat (master : Nat) (addr : BitVec 36) (index length : Nat) (enables : BitVec 8) (data : Word) : BusBeat :=
  { master := master, write := true, locked := false, addr := addr, index := index, length := length,
    enables := enables, data := data, pair := false }

/-! ### The beat commands: the address, not the row's name, decides the treatment (R170, log 15) -/

/-- FRAME_BUS_READ_BEAT (R170). -/
def execFrameBusReadBeat (master : Nat) (addr : BitVec 36) (index length : Nat) (s : State) :
    Host.Outcome State Fault Refusal := s.present (readBeat master addr index length)

/-- FRAME_BUS_WRITE_BEAT (R170). -/
def execFrameBusWriteBeat (master : Nat) (addr : BitVec 36) (index length : Nat) (enables : BitVec 8) (data : Word)
    (s : State) : Host.Outcome State Fault Refusal := s.present (writeBeat master addr index length enables data)

/-- RAW_WRITE_BEAT (R26 to R28). -/
def execRawWriteBeat (master : Nat) (addr : BitVec 36) (index length : Nat) (enables : BitVec 8) (data : Word)
    (s : State) : Host.Outcome State Fault Refusal := s.present (writeBeat master addr index length enables data)

/-- CELL_READ_BEAT (R110). -/
def execCellReadBeat (master : Nat) (addr : BitVec 36) (index length : Nat) (s : State) :
    Host.Outcome State Fault Refusal := s.present (readBeat master addr index length)

/-- CELL_WRITE_BEAT (R111). -/
def execCellWriteBeat (master : Nat) (addr : BitVec 36) (index length : Nat) (enables : BitVec 8) (data : Word)
    (s : State) : Host.Outcome State Fault Refusal := s.present (writeBeat master addr index length enables data)

/-- PROTECTED_WRITE_BEAT (R161). -/
def execProtectedWriteBeat (master : Nat) (addr : BitVec 36) (index length : Nat) (enables : BitVec 8) (data : Word)
    (s : State) : Host.Outcome State Fault Refusal := s.present (writeBeat master addr index length enables data)

/-- LOCKED_READ: a beat of a transaction with the lock attribute (R172). -/
def execLockedRead (master : Nat) (write : Bool) (addr : BitVec 36) (index length : Nat) (enables : BitVec 8)
    (data : Word) (s : State) : Host.Outcome State Fault Refusal :=
  s.present { master := master, write := write, locked := true, addr := addr, index := index, length := length,
              enables := enables, data := data, pair := false }

/-- VIEW_READ_BEAT (R164). -/
def execViewReadBeat (master : Nat) (addr : BitVec 36) (index length : Nat) (s : State) :
    Host.Outcome State Fault Refusal := s.present (readBeat master addr index length)

/-- VIEW_WRITE_BEAT (R165). -/
def execViewWriteBeat (master : Nat) (addr : BitVec 36) (index length : Nat) (enables : BitVec 8) (data : Word)
    (s : State) : Host.Outcome State Fault Refusal := s.present (writeBeat master addr index length enables data)

/-! ### The hold limit (R41) -/

/-- R41: the held raw beat of a master is lost. -/
def State.loseHeld (h : HeldBeat) (s : State) : State :=
  let s := s.onCapture fun c => { c with held := c.held.filter fun x => !decide (x.beat.master = h.beat.master) }
  ((s.recordFault h.bank .lostBeat h.segment h.row h.column).completeRaw { h with arriving := false }).settle

/-- HOLD_LIMIT_EXPIRY (R41): the hold timer of the beat that a master has held reaches its limit. -/
def execHoldLimitExpiry (master : Nat) (s : State) : Host.Outcome State Fault Refusal :=
  if s.inReset then .next s
  else match s.capture.held.find? fun h => decide (h.beat.master = master) with
    | none => .next s
    | some h => .next (s.loseHeld h)

end Sys2Proof.Machine
end

