-- ==== Sys2Proof/Machine/Port.lean ====
section
/-! DEFINITION. The arbiter of the frame store port (Chapter 10): ranks, fairness, the lock hold, and what a
grant does; and hardware reset (R180, R191). -/

namespace Sys2Proof.Machine

/-- What a command answers: nothing happens while RESET is asserted (R180), nor where the condition of the
command's event does not hold (log 7). -/
def State.happen (s : State) (t : Option State) : Host.Outcome State Fault Refusal :=
  .next (if s.inReset then s else t.getD s)

/-! ### Ranks and the choice of an ask (R182 to R185) -/

/-- The rank of a requester's ask as it stands (section 10.2, R101). -/
def State.rank (s : State) : Job → Nat
  | .writeBack _ => if Config.dirtyUrgent ≤ s.dirtyCount then 1 else 3
  | .busRead _ | .busWrite _ _ | .viewRead _ | .recordRead _ => 2
  | .calRead _ _ _ | .calDiscard | .fill => 3
  | .statusUnit _ | .replyUnit _ | .descriptorRead _ | .searchRead _ | .reportUnit _ => 4
  | .planRead _ => 5
  | .clearWrite | .renderRead _ | .renderWrite _ => 6

/-- The head of a rank's list. -/
def State.headOf (s : State) (rank : Nat) : Option Ask := s.port.asks.find? fun a => decide (s.rank a.job = rank)

/-- R183: the head of the highest rank whose list is not empty. -/
def State.highest (s : State) : Option Ask := [1, 2, 3, 4, 5, 6].findSome? s.headOf

/-- R183, R184, R185: the ask that the arbiter grants next. -/
def State.nextAsk (s : State) : Option Ask :=
  if s.port.hold then s.headOf 2
  else match s.highest with
    | none => none
    | some a =>
      if s.rank a.job = 2 ∧ s.port.fairness = Config.fairLimit then (s.headOf 3).or (some a) else some a

/-- R184: the fairness count after a grant to a rank, with or without an ask waiting at rank 3. -/
def fairnessAfter (count rank : Nat) (waits3 : Bool) : Nat :=
  if rank = 1 then count
  else if rank = 3 then 0
  else if rank = 2 ∧ waits3 = true then min (count + 1) Config.fairLimit
  else if waits3 then count else 0

/-! ### The grant (R186, R187, R188) -/

def StoredUnit.upset (v : StoredUnit) (x : Upset) : StoredUnit := ⟨v.data ^^^ x.mask, x.found⟩

/-- The last granted write of a unit carries the upset; whether there is one, and the list with it. -/
def upsetFlying (u : Nat) (x : Upset) : List Access → Bool × List Access
  | [] => (false, [])
  | a :: rest =>
    let r := upsetFlying u x rest
    if r.1 then (true, a :: r.2)
    else match a.kind with
      | .write after found =>
        if a.unit = u then (true, { a with kind := .write (after.upset x) found } :: rest) else (false, a :: rest)
      | .read _ _ => (false, a :: rest)

/-- Upsets have changed a unit since it was last accessed (section 10.4, log 4). -/
def State.applyUpset (u : Nat) (x : Option Upset) (s : State) : State :=
  match x with
  | none => s
  | some x =>
    let r := upsetFlying u x s.port.inFlight
    if r.1 then s.onPort fun p => { p with inFlight := r.2 }
    else s.setMem (s.mem.writeUnit u ((s.mem.readUnit u).upset x))

/-- R101: a write-back carries the entry's record as it stands at the grant; any other write its own bytes. -/
def State.grantedData (s : State) (job : Job) (w : WriteData) : WriteData :=
  match job with
  | .writeBack i => match s.entry i with
    | some e => ⟨0xFF#8, e.record.word⟩
    | none => w
  | _ => w

/-- R186, R187, R188: what the granted access carries. -/
def State.accessOf (s : State) (a : Ask) : Access :=
  let v := s.unitNow a.unit
  ⟨a.job, a.unit, match a.write with
    | none => .read v.data v.condition
    | some w => let r := writeResult v (s.grantedData a.job w); .write r.1 r.2⟩

def State.startHold (s : State) : State := s.onPort fun p => { p with hold := true }

/-- The requester's actions at the grant of its access (R28, R53, R101, R137, R151, R155, R169, R182, R185). -/
def State.afterGrant (s : State) : Job → State
  | .busRead b => if b.locked then s.startHold else s
  | .busWrite b ready => if ready then s else s.respond b .done
  | .viewRead v => if v.holdDue then s.startHold else s
  | .recordRead _ | .calDiscard | .fill => s
  | .calRead _ _ _ => s.fetchAsk
  | .writeBack i => s.writeBackGranted i
  | .statusUnit _ | .replyUnit _ => s.noticeAsk
  | .descriptorRead _ | .searchRead _ => s.expoAsk
  | .reportUnit k => match s.expo.report with
    | some w => if k + 1 = w.units.length then (s.finishDescriptor w).expoAsk else s.expoAsk
    | none => s.expoAsk
  | .planRead _ => s.planAsk
  | .clearWrite => s.clearGranted
  | .renderRead _ => s.engineAsk
  | .renderWrite n => s.renderGranted n

/-- R183 to R186: an ask leaves its list, the fairness count moves, and its access is in flight. -/
def State.granted (a : Ask) (s : State) : State :=
  let rank := s.rank a.job
  let rest := s.port.asks.erase a
  let waits3 := rest.any fun x => decide (s.rank x.job = 3)
  let access := s.accessOf a
  s.onPort fun p =>
    { p with asks := rest, inFlight := p.inFlight ++ [access], fairness := fairnessAfter p.fairness rank waits3 }

/-- R183: the arbiter grants one ask, after the upsets of the unit it reaches (log 4). -/
def State.grantEvent (x : Option Upset) (s : State) : Option State :=
  s.nextAsk.map fun a => (((s.applyUpset a.unit x).granted a).afterGrant a.job).settle

/-- PORT_GRANT (R183). -/
def execPortGrant (upset : Option Upset) (s : State) : Host.Outcome State Fault Refusal :=
  s.happen (s.grantEvent upset)

/-! ### Hardware reset -/

/-- R116, R168, R186: which writes in flight reach their units is a free value (log 6); of several to one
unit, a first few in the order of grants. -/
def reachAll (lost : List Nat) (n : Nat) : List Access → Memory → Memory
  | [], m => m
  | a :: rest, m =>
    match a.kind with
    | .read _ _ => reachAll lost n rest m
    | .write after _ =>
      if Config.writeReaches n && !lost.contains a.unit then reachAll lost (n + 1) rest (m.writeUnit a.unit after)
      else reachAll (a.unit :: lost) (n + 1) rest m

/-- R180, R2, R23, R48, R61, R62, R78, R87, R116, R140, R168, R191, R202: every block in its reset state with
the frame store kept; the straps stay latched until the release, and what the masters have seen stays seen. -/
def State.hardReset (s : State) : State :=
  { State.reset with
    pending := s.pending
    inReset := true
    straps := s.straps
    mem := reachAll [] s.freeCount s.port.inFlight s.mem
    bus := { BusFront.initial with responses := s.bus.responses }
    notice := Notice.initial
    freeCount := s.freeCount + (s.port.inFlight.filter Access.isWrite).length }

/-- RESET_ASSERT (R180). -/
def execResetAssert (s : State) : Host.Outcome State Fault Refusal := .next (if s.inReset then s else s.hardReset)

/-- R1, R2, R202: the straps are latched, the part state follows, and one status block write is wanted. -/
def State.released (s : State) (bypass : Bool) (planSel memSize : BitVec 2) : State :=
  { s with
    inReset := false
    straps := ⟨bypass, planSel, memSize⟩
    part := if bypass then .bypass else .unplanned
    notice := { s.notice with wanted := true } }

/-- RESET_RELEASE (R1). -/
def execResetRelease (bypass : Bool) (planSel memSize : BitVec 2) (s : State) : Host.Outcome State Fault Refusal :=
  .next (if s.inReset then s.released bypass planSel memSize else s)

end Sys2Proof.Machine
end

