-- ==== Sys2Proof/Machine/Traffic.lean ====
section
/-! DEFINITION. Completions of frame bus accesses, the control words they carry, and the request record
(sections 9.1, 9.3 and 9.4; R164). -/

namespace Sys2Proof.Machine

def isBusRead : Job → Bool
  | .busRead _ => true
  | _ => false

def isRecordRead : Job → Bool
  | .recordRead _ => true
  | _ => false

/-- A frame bus write of one unit. -/
def isBusWriteTo (u : Nat) : Job → Bool
  | .busWrite b _ => decide (b.unit = u)
  | _ => false

/-! ### Delivered reads (R171) -/

/-- R171: a delivered read completes its beat with its data, or with an error response. -/
def readAnswer (data : Word) (found : EccCondition) : Answer :=
  if found = .uncorrectable then .error else .data data

/-- R171: the `which`-th frame bus read in flight is delivered. The units that unreported writes store to are read by
frame bus reads alone, so that none but these completes such writes (R186, log 11). -/
def State.busReadEvent (which : Nat) (s : State) : Option State :=
  ((s.landBefore isBusRead which).deliverNth isBusRead which).map fun x => match x.1.job with
    | .busRead b => x.2.2.2.respond b (readAnswer x.2.1 x.2.2.1)
    | _ => x.2.2.2

/-- FRAME_BUS_READ_DELIVERED (R171). -/
def execFrameBusReadDelivered (which : Nat) (s : State) : Host.Outcome State Fault Refusal :=
  s.happen (s.busReadEvent which)

/-- The free value that stands in for the rs of an undefined product has been used: the next is another (log 36). -/
def State.rsUsed (product : Nat) (s : State) : State :=
  if (s.productEntry product).isSome then s else { s with freeCount := s.freeCount + 1 }

/-- R164: the record of a view position is delivered: the position is answered and the read goes on, or the
beat gets an error response. The hold of a locked view read has begun with this access (R185). DESIGN CHOICE: the
position shows its record though its product has left the state in which it was asked (log 43). -/
def State.positionDelivered (v : ViewRead) (data : Word) (found : EccCondition) (s : State) : State :=
  if found = .uncorrectable then s.respond v.beat .error
  else
    let r := CellRecord.ofWord data
    (s.rsUsed v.product).resumeView
      { v with values := v.values ++ [normalise r.sum r.hits (s.rsOf v.product)], holdDue := false }

/-- R164: the `which`-th view position read in flight is delivered. -/
def State.viewEvent (which : Nat) (s : State) : Option State :=
  (s.deliverNth isViewRead which).map fun x => match x.1.job with
    | .viewRead v => (x.2.2.2.positionDelivered v x.2.1 x.2.2.1).settle
    | _ => x.2.2.2

/-- VIEW_POSITION_DELIVERED (R164). -/
def execViewPositionDelivered (which : Nat) (s : State) : Host.Outcome State Fault Refusal :=
  s.happen (s.viewEvent which)

/-! ### Control words (R174 to R177) -/

/-- The control words (section 9.3). -/
inductive ControlWord where
  | request | post | acknowledge | mask
  deriving DecidableEq, Repr

def ControlWord.offset : ControlWord → Nat
  | .request => Config.requestWordAt
  | .post => Config.postWordAt
  | .acknowledge => Config.ackWordAt
  | .mask => Config.maskWordAt

/-- The unit of a control word. -/
def State.wordUnit (s : State) (c : ControlWord) : Nat := s.planBase + c.offset

/-- The control word that a unit holds, if any. -/
def State.wordAt (s : State) (u : Nat) : Option ControlWord :=
  [ControlWord.request, .post, .acknowledge, .mask].find? fun c => decide (s.wordUnit c = u)

/-- R177: a request is lost. -/
def State.loseRequest (s : State) : State :=
  (s.onBus fun f => { f with requestsLost := satAdd f.requestsLost 1 }).raise .requestLost

/-- The fields of a request record not yet read. -/
def RequestRecord.unread : RequestRecord := ⟨0, 0, 0, 0#32, 0#32⟩

/-- R176, R177, Table 12-8: a request word is taken: its kind is the high half, its sequence the low half. DESIGN
CHOICE: both beats of the record are asked at once, the one at the lower address first (log 38). -/
def State.takeRequest (v : BitVec 32) (s : State) : State :=
  match s.bus.inHand with
  | some _ => s.loseRequest
  | none =>
    let first := s.planBase + Config.requestRecordAt
    let hand : Request := ⟨(v.extractLsb' 16 16).toNat, (v.extractLsb' 0 16).toNat, RequestRecord.unread, .reading⟩
    ((s.onBus fun f => { f with inHand := some hand }).ask ⟨.recordRead 0, first, none⟩).ask
      ⟨.recordRead 1, first + 8, none⟩

/-- R174, R175: a control word written whole is handed to its owner. -/
def State.takeWord (c : ControlWord) (v : BitVec 32) (s : State) : State :=
  match c with
  | .request => s.takeRequest v
  | .post => s.takePost (v.extractLsb' 0 8).toNat
  | .acknowledge => s.takeAck v
  | .mask => s.takeMask v

/-- R174: a control word written in part. -/
def State.partWord (c : ControlWord) (s : State) : State :=
  match c with
  | .request => s.loseRequest
  | .post => s.raise .ringFault
  | .acknowledge | .mask => s

/-- R174, R3: what the completed store of a beat means for the control words. -/
def State.wordStored (b : BusBeat) (s : State) : State :=
  if s.part = .bypass then s
  else match s.wordAt b.unit with
    | none => s
    | some c => match wordTouch b.enables with
      | .whole => s.takeWord c (controlValue b.data)
      | .part => s.partWord c
      | .untouched => s

/-- R186, R174, R173: the store of a beat has completed at the port. -/
def State.storeDone (b : BusBeat) (s : State) : State :=
  let s := s.wordStored b
  (if b.pair then s.endLock else s).settle

/-- R174: the completion of the beat's store takes a control word. -/
def State.takesWord (s : State) (b : BusBeat) : Bool :=
  decide (s.part ≠ .bypass) && (s.wordAt b.unit).isSome && decide (wordTouch b.enables = .whole)

/-- The beat `c` is an earlier one of the burst of `b` (R169). -/
def BusBeat.precedes (c b : BusBeat) : Bool :=
  decide (c.master = b.master) && decide (c.addr = b.addr) && decide (c.length = b.length) && decide (c.index < b.index)

/-- R174: a store that takes a control word waits for those of the earlier beats of its burst, so that the words of
one burst are taken in beat order. `earlier` are the accesses granted before it. -/
def State.wordWaits (s : State) (b : BusBeat) (earlier : List Access) : Bool :=
  s.takesWord b && earlier.any fun a => match a.job with
    | .busWrite c _ => s.takesWord c && c.precedes b
    | _ => false

/-- R174: the `n`-th write in flight that `pick` names must wait so. -/
def State.wordBlocked (pick : Job → Bool) (n : Nat) (s : State) : Bool :=
  match pickNth (fun a => a.isWrite && pick a.job) n s.port.inFlight with
  | none => false
  | some (before, a, _) => match a.job with
    | .busWrite b _ => s.wordWaits b before
    | _ => false

/-- R186: the `n`-th frame bus write in flight that `pick` names completes. -/
def State.busWriteEvent (pick : Job → Bool) (n : Nat) (s : State) : Option State :=
  if s.wordBlocked (fun j => isBusWrite j && pick j) n then none
  else (s.landNth (fun j => isBusWrite j && pick j) n).map fun x => match x.1.job with
    | .busWrite b _ => x.2.storeDone b
    | _ => x.2

/-- FRAME_BUS_WRITE_COMPLETE (R186): the `which`-th frame bus write in flight completes. -/
def execFrameBusWriteComplete (which : Nat) (s : State) : Host.Outcome State Fault Refusal :=
  s.happen (s.busWriteEvent (fun _ => true) which)

/-- The oldest write in flight of a control word's unit completes, and the word is taken (R174, log 16). -/
def State.wordEvent (c : ControlWord) (s : State) : Option State := s.busWriteEvent (isBusWriteTo (s.wordUnit c)) 0

/-- REQUEST_WORD (R176). -/
def execRequestWord (s : State) : Host.Outcome State Fault Refusal := s.happen (s.wordEvent .request)

/-- POST_WORD (R119). -/
def execPostWord (s : State) : Host.Outcome State Fault Refusal := s.happen (s.wordEvent .post)

/-- ACKNOWLEDGE_WORD (R199). -/
def execAcknowledgeWord (s : State) : Host.Outcome State Fault Refusal := s.happen (s.wordEvent .acknowledge)

/-- MASK_WORD (R200). -/
def execMaskWord (s : State) : Host.Outcome State Fault Refusal := s.happen (s.wordEvent .mask)

/-! ### The request record (R176, R178) -/

/-- R176, Table 12-7: the first field of a beat of the request record, as its offset plus 1. -/
def firstField (k : Nat) : Nat := 8 * k + 1

/-- R178: a kind of Table 12-8. -/
def knownKind (kind : Nat) : Bool := decide (1 ≤ kind) && decide (kind ≤ 10)

/-- R176, R178: the request with its latched record goes to its owner, or is answered UNKNOWN_KIND. -/
def State.dispatch (q : Request) (r : RequestRecord) (s : State) : State :=
  let s := s.onBus fun f => { f with inHand := some { q with record := r, stage := .dispatched } }
  if knownKind q.kind then s else s.reply .unknownKind { Detail.zero with value := q.kind }

/-- The unit `k` of the record among the deliveries, and whether it was damaged. -/
def recordUnit (k : Nat) (got : List (Job × Word × EccCondition)) : Word × Bool :=
  match got.find? fun x => decide (x.1 = .recordRead k) with
  | some x => (x.2.1, decide (x.2.2 = .uncorrectable))
  | none => (0#64, false)

/-- R176: the read of the request record has been delivered. DESIGN CHOICE: where both beats are damaged, the field
named is the first of the one at the lower address (log 37). -/
def State.recordRead (q : Request) (s : State) : State :=
  let got := s.deliverAll isRecordRead
  let first := recordUnit 0 got.1
  let second := recordUnit 1 got.1
  let damaged (k : Nat) : State :=
    got.2.reply .badArgument { Detail.zero with table := .request, field := firstField k }
  if first.2 then damaged 0
  else if second.2 then damaged 1
  else got.2.dispatch q (RequestRecord.ofUnits first.1 second.1)

/-- R176: both beats of the record have been granted, and are delivered. -/
def State.recordEvent (s : State) : Option State :=
  match s.bus.inHand with
  | none => none
  | some q =>
    if q.stage = .reading ∧ s.asking isRecordRead = false ∧ canEndAll isRecordRead [] s.port.inFlight = true then
      some (s.recordRead q)
    else none

/-- REQUEST_RECORD_READ_DELIVERED (R176). -/
def execRequestRecordReadDelivered (s : State) : Host.Outcome State Fault Refusal := s.happen s.recordEvent

end Sys2Proof.Machine
end

