-- ==== Sys2Proof/Machine/Requests.lean ====
section
/-! DEFINITION. The ten requests (Table 12-8), each taken by its owner once the bus front has dispatched it (R178). -/

namespace Sys2Proof.Machine

/-- COMMIT_PLAN (R10). -/
def execCommitPlan (s : State) : Host.Outcome State Fault Refusal :=
  s.happen ((s.dispatched kindCommitPlan).map fun r => s.takeCommit r)

/-- OPEN_PRODUCT (R144). -/
def execOpenProduct (s : State) : Host.Outcome State Fault Refusal :=
  s.happen ((s.dispatched kindOpenProduct).map fun r => s.takeOpen r)

/-- FREEZE_PRODUCT (R145). -/
def execFreezeProduct (s : State) : Host.Outcome State Fault Refusal :=
  s.happen ((s.dispatched kindFreezeProduct).map fun r => (s.takeFreeze r).settle)

/-- THAW_PRODUCT (R148). -/
def execThawProduct (s : State) : Host.Outcome State Fault Refusal :=
  s.happen ((s.dispatched kindThawProduct).map fun r => s.takeThaw r)

/-- RENDER_PRODUCT (R153). -/
def execRenderProduct (s : State) : Host.Outcome State Fault Refusal :=
  s.happen ((s.dispatched kindRenderProduct).map fun r => s.takeRender r)

/-- DISCARD_PRODUCT (R149); the discard of a product whose job is ending is taken after that end (R158, log 17). -/
def execDiscardProduct (s : State) : Host.Outcome State Fault Refusal :=
  s.happen ((s.dispatched kindDiscardProduct).bind fun r =>
    if s.jobEnding ∧ s.prod.engine.product = r.product then none else some (s.takeDiscard r).settle)

/-- HALT_JOB (R159); while a job is ending it is taken after that end (R158, log 17). -/
def execHaltJob (s : State) : Host.Outcome State Fault Refusal :=
  s.happen ((s.dispatched kindHaltJob).bind fun _ => if s.jobEnding then none else some s.takeHalt)

/-- ABORT_EXPOSURE (R132). -/
def execAbortExposure (s : State) : Host.Outcome State Fault Refusal :=
  s.happen ((s.dispatched kindAbortExposure).map fun r => (s.takeAbort r).settle)

/-- RELEASE_TILE (R195). -/
def execReleaseTile (s : State) : Host.Outcome State Fault Refusal :=
  s.happen ((s.dispatched kindReleaseTile).map fun r => s.takeRelease r)

/-- R178: the merge buffer's part of a RESTART is to come. -/
def State.beginRestart (s : State) : State := s.onBus fun f => { f with restart := some ⟨false, false⟩ }

/-- R139: the descriptor read in progress is discarded at its end. -/
def State.restartRead (s : State) : State :=
  s.onExpo fun e => { e with activation := e.activation.map fun a => { a with discard := true } }

/-- R139, R47, R60: the exposures that are not draining end: every bank is unbound with its held beats released as
late beats, then their slots are freed, then they drain. Each goes through the records in the order they were
activated (DESIGN CHOICE, log 40). -/
def State.restartExposures (s : State) : State :=
  let banks := (s.expo.records.filter fun r => decide (r.state = .active)).map fun r => r.bank
  let s := banks.foldl (fun t b => t.endAborted b) s
  let s := banks.foldl (fun t b => t.freeUnapplied b) s
  banks.foldl (fun t b => t.drainCheck b) s

/-- R167: a running job is halted, unless it is ending (R158, log 17). -/
def State.restartJob (s : State) : State :=
  if s.engineRuns ∧ s.prod.engine.halting = none ∧ s.jobEnding = false then s.halt .restart else s

/-- R178: RESTART is taken: every block begins its part. -/
def State.takeRestart (s : State) : State := ((s.keepInHand 0).restartNotices.beginRestart.restartRead.restartExposures.restartJob).settle

/-- RESTART (R178). -/
def execRestart (s : State) : Host.Outcome State Fault Refusal :=
  s.happen ((s.dispatched kindRestart).map fun _ => s.takeRestart)

end Sys2Proof.Machine
end

