-- ==== Sys2Proof/Machine/Events.lean ====
section
/-! DEFINITION. The steps that the part's blocks take on their own: plan loader, merge buffer, pipeline,
calibration fetch, exposure controller, region engine and notice unit. -/

namespace Sys2Proof.Machine

/-! ### Plan loader (R12) -/

def State.planEvent (which : Nat) (s : State) : Option State :=
  (s.deliverNth isPlanRead which).map fun x => match x.1.job with
    | .planRead k => (x.2.2.2.planDelivered k x.2.1 x.2.2.1).settle
    | _ => x.2.2.2

/-- PLAN_BODY_BEAT_DELIVERED (R12): the `which`-th read of the body in flight is delivered. -/
def execPlanBodyBeatDelivered (which : Nat) (s : State) : Host.Outcome State Fault Refusal :=
  s.happen (s.planEvent which)

/-! ### Merge buffer (R97, R100, R102) -/

def State.choiceEvent (s : State) : Option State :=
  if s.asking isWriteBack then none else s.writeBackPick.map fun i => s.askWriteBack i

/-- WRITE_BACK_CHOICE (R100): with no write asked, the engine chooses an entry. -/
def execWriteBackChoice (s : State) : Host.Outcome State Fault Refusal := s.happen s.choiceEvent

def State.writeBackEvent (which : Nat) (s : State) : Option State :=
  (s.landNth isWriteBack which).map fun x => match x.1.job with
    | .writeBack i => (x.2.writeBackDone i).settle
    | _ => x.2

/-- WRITE_BACK_COMPLETE (R102): the `which`-th write-back in flight completes. -/
def execWriteBackComplete (which : Nat) (s : State) : Host.Outcome State Fault Refusal :=
  s.happen (s.writeBackEvent which)

def State.fillEvent (s : State) : Option State :=
  (s.deliverNth isFill 0).map fun x =>
    match (s.entryOf x.1.unit).bind fun i => (s.entry i).map fun e => (i, e) with
    | some (i, e) =>
      if e.state = .filling ∧ e.fillAsked = true then (x.2.2.2.fillDelivered i e x.2.1 x.2.2.1).settle else x.2.2.2
    | none => x.2.2.2

/-- MERGE_FILL_DELIVERED (R97): the fill in flight is delivered. -/
def execMergeFillDelivered (s : State) : Host.Outcome State Fault Refusal := s.happen s.fillEvent

/-! ### Pixel pipeline (R44, R70) -/

def State.applyEvent (s : State) : Option State :=
  match s.pipe.applying, s.capture.ready with
  | none, i :: rest => some (s.applyRow i rest).settle
  | _, _ => none

/-- ROW_APPLY_START (R44): with no row APPLYING, the head of the ready queue is taken. -/
def execRowApplyStart (s : State) : Host.Outcome State Fault Refusal := s.happen s.applyEvent

def State.presentEvent (s : State) : Option State :=
  match s.pipe.applying with
  | none => none
  | some a =>
    if a.pixel.isSome then none
    else ((s.slot a.slot).nextPixel a.column (s.imageWidth (s.slot a.slot).segment)).map fun x =>
      (s.presentPixel a x.1 x.2).settle

/-- PIXEL_PRESENT (R70): with no pixel waiting, the next received image pixel is presented. -/
def execPixelPresent (s : State) : Host.Outcome State Fault Refusal := s.happen s.presentEvent

/-! ### Calibration fetch (R54, R55, R58) -/

def isCalJob (j : Job) : Bool := isCalRead j || isCalDiscard j

def State.calEvent (which : Nat) (s : State) : Option State :=
  (s.deliverNth isCalJob which).map fun x => match x.1.job with
    | .calRead slot frame beat => (x.2.2.2.fetchDelivered slot frame beat x.2.1 x.2.2.1).settle
    | _ => x.2.2.2.settle

/-- CAL_FETCH_BEAT_DELIVERED (R54): the `which`-th read of the unit in flight is delivered. -/
def execCalFetchBeatDelivered (which : Nat) (s : State) : Host.Outcome State Fault Refusal :=
  s.happen (s.calEvent which)

/-! ### Exposure controller (R120, R121, R130, R132, R137) -/

def State.attemptEvent (s : State) : Option State :=
  s.candidate.bind fun c => if s.mayAttempt c then some (s.attempt c) else none

/-- ACTIVATION_ATTEMPT (R120). -/
def execActivationAttempt (s : State) : Host.Outcome State Fault Refusal := s.happen s.attemptEvent

def State.readDoneEvent (s : State) : Option State :=
  s.expo.activation.bind fun a =>
    if a.asked = Config.descriptorUnits ∧ s.asking isDescriptorRead = false ∧
        canEndAll isDescriptorRead [] s.port.inFlight = true then
      some (s.readDone a)
    else none

/-- DESCRIPTOR_READ_DONE (R121): every beat of the candidate has been granted, and is delivered (log 14). -/
def execDescriptorReadDone (s : State) : Host.Outcome State Fault Refusal := s.happen s.readDoneEvent

def State.searchEvent (s : State) : Option State :=
  (s.deliverNth isSearchRead 0).map fun x => match x.1.job, s.expo.search with
    | .searchRead number, some q => x.2.2.2.searchDelivered q number x.2.1 x.2.2.1
    | _, _ => x.2.2.2

/-- ABORT_SEARCH_READ_DELIVERED (R132). -/
def execAbortSearchReadDelivered (s : State) : Host.Outcome State Fault Refusal := s.happen s.searchEvent

def State.timerEvent (bank : Nat) (s : State) : Option State :=
  (s.recordOf bank).bind fun r =>
    if r.state = .active ∧ r.endStatus = none then some (s.expire bank).settle else none

/-- COMPLETION_TIMER_EXPIRY (R130): the timer of the exposure on a bank runs out. -/
def execCompletionTimerExpiry (bank : Nat) (s : State) : Host.Outcome State Fault Refusal :=
  s.happen (s.timerEvent bank)

def State.reportEvent (s : State) : Option State :=
  match s.expo.report, s.expo.due with
  | none, d :: rest => some (s.startReport d rest)
  | _, _ => none

/-- REPORT_WRITE_START (R137): with no report being written, the one that became due first is begun. -/
def execReportWriteStart (s : State) : Host.Outcome State Fault Refusal := s.happen s.reportEvent

/-! ### Region engine (R151, R154, R156) -/

def State.clearEvent (which : Nat) (s : State) : Option State :=
  (s.landNth isClearWrite which).map fun x => x.2.engineCheck.settle

/-- CLEAR_WRITE_COMPLETE (R151): the `which`-th clear write in flight completes. -/
def execClearWriteComplete (which : Nat) (s : State) : Host.Outcome State Fault Refusal :=
  s.happen (s.clearEvent which)

def State.renderReadEvent (which : Nat) (s : State) : Option State :=
  (s.deliverNth isRenderRead which).map fun x => match x.1.job with
    | .renderRead cell => (x.2.2.2.renderDelivered cell x.2.1 x.2.2.1).settle
    | _ => x.2.2.2

/-- RENDER_READ_DELIVERED (R154): the `which`-th read of the render job in flight is delivered. -/
def execRenderReadDelivered (which : Nat) (s : State) : Host.Outcome State Fault Refusal :=
  s.happen (s.renderReadEvent which)

def State.renderWriteEvent (which : Nat) (s : State) : Option State :=
  (s.landNth isRenderWrite which).map fun x => x.2.engineCheck.settle

/-- RENDER_WRITE_COMPLETE (R156): the `which`-th write of the render job in flight completes. -/
def execRenderWriteComplete (which : Nat) (s : State) : Host.Outcome State Fault Refusal :=
  s.happen (s.renderWriteEvent which)

/-! ### Notice unit (R179, R198) -/

def State.replyStartEvent (s : State) : Option State :=
  if s.noticeIdle then s.notice.replyWaiting.map fun r => s.startReply r else none

/-- REPLY_WRITE_START (R198): idle with a reply waiting. -/
def execReplyWriteStart (s : State) : Host.Outcome State Fault Refusal := s.happen s.replyStartEvent

/-- R179: the reply has been written: the request leaves the hand, REQUEST_DONE is raised, and after a RESTART
a pending commit is loaded (R24). -/
def State.replyDone (s : State) : State :=
  let restarted := s.restartInHand
  let s := ((s.onNotice fun n => { n with reply := none }).onBus fun f => { f with inHand := none }).raise .requestDone
  if restarted then s.beginDeferred else s

def State.replyEvent (s : State) : Option State :=
  s.notice.reply.bind fun w =>
    if w.asked = w.units.length ∧ s.asking isReplyUnit = false ∧ canEndAll isReplyUnit [] s.port.inFlight = true then
      some (s.landAll isReplyUnit s.port.inFlight.length).replyDone
    else none

/-- REPLY_WRITE_COMPLETE (R179): every unit of the reply has been granted, and completes. -/
def execReplyWriteComplete (s : State) : Host.Outcome State Fault Refusal := s.happen s.replyEvent

def State.statusStartEvent (s : State) : Option State :=
  if s.noticeIdle ∧ s.notice.replyWaiting = none ∧ s.notice.wanted = true then some s.startStatus else none

/-- STATUS_WRITE_START (R198): idle with no reply waiting and a status block write wanted. -/
def execStatusWriteStart (s : State) : Host.Outcome State Fault Refusal := s.happen s.statusStartEvent

/-- Report units granted before the first unit of the status block in flight (log 11). -/
def reportsBefore (l : List Access) : Nat :=
  ((l.takeWhile fun a => !isStatusUnit a.job).filter fun a => isReportUnit a.job).length

def State.statusEvent (s : State) : Option State :=
  s.notice.status.bind fun w =>
    if w.asked = w.units.length ∧ s.asking isStatusUnit = false ∧ canEndAll isStatusUnit [] s.port.inFlight = true then
      some (((s.landAll isReportUnit (reportsBefore s.port.inFlight)).landAll isStatusUnit
        s.port.inFlight.length).finishStatus w)
    else none

/-- STATUS_WRITE_COMPLETE (R198): every unit of the status block has been granted, and completes. -/
def execStatusWriteComplete (s : State) : Host.Outcome State Fault Refusal := s.happen s.statusEvent

end Sys2Proof.Machine
end

