-- ==== Sys2Proof/Machine/Dispatch.lean ====
section
/-! DEFINITION. The meaning of each command: one arm per constructor of Instr. -/

namespace Sys2Proof.Machine

def exec (i : Instr) (s : State) : Host.Outcome State Fault Refusal :=
  match i with
  | .resetAssert => Sys2Proof.Machine.execResetAssert s
  | .resetRelease bypass planSel memSize => Sys2Proof.Machine.execResetRelease bypass planSel memSize s
  | .frameBusReadBeat master addr index length => Sys2Proof.Machine.execFrameBusReadBeat master addr index length s
  | .frameBusWriteBeat master addr index length enables data => Sys2Proof.Machine.execFrameBusWriteBeat master addr index length enables data s
  | .frameBusReadDelivered which => Sys2Proof.Machine.execFrameBusReadDelivered which s
  | .frameBusWriteComplete which => Sys2Proof.Machine.execFrameBusWriteComplete which s
  | .rawWriteBeat master addr index length enables data => Sys2Proof.Machine.execRawWriteBeat master addr index length enables data s
  | .holdLimitExpiry master => Sys2Proof.Machine.execHoldLimitExpiry master s
  | .cellReadBeat master addr index length => Sys2Proof.Machine.execCellReadBeat master addr index length s
  | .cellWriteBeat master addr index length enables data => Sys2Proof.Machine.execCellWriteBeat master addr index length enables data s
  | .protectedWriteBeat master addr index length enables data => Sys2Proof.Machine.execProtectedWriteBeat master addr index length enables data s
  | .lockedRead master write addr index length enables data => Sys2Proof.Machine.execLockedRead master write addr index length enables data s
  | .viewReadBeat master addr index length => Sys2Proof.Machine.execViewReadBeat master addr index length s
  | .viewPositionDelivered which => Sys2Proof.Machine.execViewPositionDelivered which s
  | .viewWriteBeat master addr index length enables data => Sys2Proof.Machine.execViewWriteBeat master addr index length enables data s
  | .requestWord => Sys2Proof.Machine.execRequestWord s
  | .postWord => Sys2Proof.Machine.execPostWord s
  | .acknowledgeWord => Sys2Proof.Machine.execAcknowledgeWord s
  | .maskWord => Sys2Proof.Machine.execMaskWord s
  | .commitPlan => Sys2Proof.Machine.execCommitPlan s
  | .planBodyBeatDelivered which => Sys2Proof.Machine.execPlanBodyBeatDelivered which s
  | .openProduct => Sys2Proof.Machine.execOpenProduct s
  | .freezeProduct => Sys2Proof.Machine.execFreezeProduct s
  | .thawProduct => Sys2Proof.Machine.execThawProduct s
  | .renderProduct => Sys2Proof.Machine.execRenderProduct s
  | .discardProduct => Sys2Proof.Machine.execDiscardProduct s
  | .haltJob => Sys2Proof.Machine.execHaltJob s
  | .abortExposure => Sys2Proof.Machine.execAbortExposure s
  | .abortSearchReadDelivered => Sys2Proof.Machine.execAbortSearchReadDelivered s
  | .releaseTile => Sys2Proof.Machine.execReleaseTile s
  | .restart => Sys2Proof.Machine.execRestart s
  | .portGrant upset => Sys2Proof.Machine.execPortGrant upset s
  | .writeBackChoice => Sys2Proof.Machine.execWriteBackChoice s
  | .writeBackComplete which => Sys2Proof.Machine.execWriteBackComplete which s
  | .rowApplyStart => Sys2Proof.Machine.execRowApplyStart s
  | .pixelPresent => Sys2Proof.Machine.execPixelPresent s
  | .mergeFillDelivered => Sys2Proof.Machine.execMergeFillDelivered s
  | .calFetchBeatDelivered which => Sys2Proof.Machine.execCalFetchBeatDelivered which s
  | .activationAttempt => Sys2Proof.Machine.execActivationAttempt s
  | .descriptorReadDone => Sys2Proof.Machine.execDescriptorReadDone s
  | .completionTimerExpiry bank => Sys2Proof.Machine.execCompletionTimerExpiry bank s
  | .reportWriteStart => Sys2Proof.Machine.execReportWriteStart s
  | .clearWriteComplete which => Sys2Proof.Machine.execClearWriteComplete which s
  | .renderReadDelivered which => Sys2Proof.Machine.execRenderReadDelivered which s
  | .renderWriteComplete which => Sys2Proof.Machine.execRenderWriteComplete which s
  | .replyWriteStart => Sys2Proof.Machine.execReplyWriteStart s
  | .replyWriteComplete => Sys2Proof.Machine.execReplyWriteComplete s
  | .statusWriteStart => Sys2Proof.Machine.execStatusWriteStart s
  | .statusWriteComplete => Sys2Proof.Machine.execStatusWriteComplete s
  | .requestRecordReadDelivered => Sys2Proof.Machine.execRequestRecordReadDelivered s

end Sys2Proof.Machine
end

