-- ==== Sys2Proof/Safety.lean ====
section
/-! DEFINITION. What claims about the part are stated in: the soundness that every step keeps, when nothing is
left waiting inside a step, when a beat is taken at its arrival, and how an access in flight ends. -/

namespace Sys2Proof.Machine

/-- Sound: the frame store is in canonical form, NOTICE is asserted exactly while some latched cause is unmasked
(R198), and the fairness count lies in 0..8 (R184). -/
structure State.Sound (s : State) : Prop where
  memory : s.mem.wf = true
  notice : s.notice.line = noticeOf s.notice.latched s.notice.mask
  fairness : s.port.fairness ≤ Config.fairLimit

/-- The waiting pixel, if any, waits for its fill alone (R97). -/
def State.pixelSettled (s : State) : Bool :=
  match s.waitingPixel with
  | none => true
  | some (_, .fill) => true
  | some (_, .allocation) => false
  | some (_, .access) => false

/-- Nothing waits that an event's end could let go on: no beat held on a cell or a lock or stalled, no flush, no
discard, no RESTART, no pixel waiting for an entry or an access, and no fill still to be asked. -/
def State.quiet (s : State) : Bool :=
  s.bus.heldCells.isEmpty && s.bus.lockWaiters.isEmpty && s.bus.stalled.isEmpty && s.bus.restart.isNone &&
    s.merge.flushes.isEmpty && ((List.range 4).all fun p => decide ((s.product p).mark ≠ .discarding)) &&
    s.pixelSettled && s.merge.entries.all fun e => !(entryIn .filling e && !(e.any fun x => x.fillAsked))

/-- The beat is well formed and is taken when it arrives: RESET is released, no beat of its master is held or
stalled, and no lock stands (R169, R173). -/
structure State.Takes (s : State) (b : BusBeat) : Prop where
  formed : beatWellFormed b.index b.length = true
  running : s.inReset = false
  free : s.masterHeld b.master = false
  first : (s.bus.stalled.any fun x => decide (x.master = b.master)) = false
  unlocked : s.bus.lock = none

/-- A request of a kind has been dispatched with its record, and RESET is released (R178). -/
structure State.Dispatched (s : State) (kind : Nat) (r : RequestRecord) : Prop where
  running : s.inReset = false
  hand : s.dispatched kind = some r

/-- Bounded: the part keeps its 48 row slots (R29), 64 merge entries (R93), 512 bias states (R62), two banks, four
products (R142) and 64 tile records (R192), its counts never pass their 32 bits (R26, R114, R161, R177, R190) and
its post counts stay 8 bits wide (R118). -/
structure State.Bounded (s : State) : Prop where
  slots : s.capture.slots.length = 48
  banks : s.capture.banks.length = 2
  entries : s.merge.entries.length = 64
  bias : s.pipe.bias.length = 512
  products : s.prod.products.length = 4
  tiles : s.notice.tiles.length = 64
  stray : s.capture.stray ≤ 4294967295
  unclaimed : s.capture.unclaimed ≤ 4294967295
  late : s.capture.late ≤ 4294967295
  protects : s.bus.protectCount ≤ 4294967295
  requestsLost : s.bus.requestsLost ≤ 4294967295
  overwritten : s.merge.overwritten ≤ 4294967295
  corrected : s.port.corrected ≤ 4294967295
  uncorrectable : s.port.uncorrectable ≤ 4294967295
  accepted : s.expo.accepted < 256
  consume : s.expo.consume < 256

/-- The beat that a beat command presents (R169); no other command presents one. -/
def beatOf : Instr → Option BusBeat
  | .frameBusReadBeat m a i n => some (readBeat m a i n)
  | .frameBusWriteBeat m a i n e d => some (writeBeat m a i n e d)
  | .rawWriteBeat m a i n e d => some (writeBeat m a i n e d)
  | .cellReadBeat m a i n => some (readBeat m a i n)
  | .cellWriteBeat m a i n e d => some (writeBeat m a i n e d)
  | .protectedWriteBeat m a i n e d => some (writeBeat m a i n e d)
  | .lockedRead m w a i n e d =>
    some { master := m, write := w, locked := true, addr := a, index := i, length := n, enables := e, data := d,
           pair := false }
  | .viewReadBeat m a i n => some (readBeat m a i n)
  | .viewWriteBeat m a i n e d => some (writeBeat m a i n e d)
  | _ => none

/-- The `which`-th read in flight that `pick` names is `job`'s, of `unit`, with its data and condition; no earlier
access of the unit is still to be reported ended; `rest` are the other accesses in flight (R186, R188). RESET is
released. -/
structure State.Delivers (s : State) (pick : Job → Bool) (which : Nat) (job : Job) (unit : Nat) (data : Word)
    (found : EccCondition) (rest : List Access) : Prop where
  running : s.inReset = false
  picked : pick job = true
  splits : ∃ before after, s.port.inFlight = before ++ ⟨job, unit, .read data found⟩ :: after ∧
    before.countP (fun a => !a.isWrite && pick a.job) = which ∧ blockedBy before unit = false ∧ rest = before ++ after

/-- What the delivery of a read does before its requester acts: it leaves the port and is counted (R188). -/
def State.delivered (found : EccCondition) (rest : List Access) (s : State) : State :=
  (s.onPort fun p => { p with inFlight := rest }).countFound found

/-- The `which`-th write in flight that `pick` names is `job`'s, of `unit`, and leaves there `after` with the
condition its own read found; no earlier access of the unit is still to be reported ended; `rest` stays in flight,
earlier unreported writes of the unit having completed too (R186, log 11). -/
structure State.Completes (s : State) (pick : Job → Bool) (which : Nat) (job : Job) (unit : Nat)
    (after : StoredUnit) (found : Option EccCondition) (rest : List Access) : Prop where
  running : s.inReset = false
  picked : pick job = true
  splits : ∃ before later, s.port.inFlight = before ++ ⟨job, unit, .write after found⟩ :: later ∧
    before.countP (fun a => a.isWrite && pick a.job) = which ∧
    blockedBy before unit = false ∧
    rest = (before.filter fun a => !a.writesTo unit) ++ later

/-- What the completion of a write does before its requester acts: the unit holds its data and check bits, it
leaves the port, and what its own read found is counted (R186, R187). -/
def State.landed (unit : Nat) (after : StoredUnit) (found : Option EccCondition) (rest : List Access)
    (s : State) : State :=
  ((s.setMem (s.mem.writeUnit unit after)).onPort fun p => { p with inFlight := rest }).countFound
    (found.getD .correct)

/-- A command whose step can complete writes in flight (R116, R186). -/
def landsWrites : Instr → Bool
  | .resetAssert | .frameBusReadDelivered _ | .frameBusWriteComplete _ | .requestWord | .postWord | .acknowledgeWord | .maskWord
  | .writeBackComplete _ | .clearWriteComplete _ | .renderWriteComplete _ | .replyWriteComplete
  | .statusWriteComplete => true
  | _ => false

/-- No write in flight stores to the byte. -/
def State.unwritten (s : State) (a : Nat) : Prop :=
  ∀ x ∈ s.port.inFlight, x.isWrite = true → a < x.unit ∨ x.unit + 8 ≤ a

end Sys2Proof.Machine
end

