-- ==== Sys2Proof/Certificates/Slice0/Obligations.lean ====
section
/-! DEFINITION. The statements for the provers. A conclusion `exec c s = .next t.settle` is exactly `.next t`
whenever nothing waits in `t` (SettleQuiet). -/

open Sys2Proof Sys2Proof.Machine

/-! ### The step, the invariants, reset -/

/-- One step carries out the front command with the queue's rest; on an empty queue the part idles (the queue and
the idling are the model's choice, log 1). -/
def Obligations.StepRunsFront : Prop :=
  ∀ s : State,
    (∀ c rest, s.pending = c :: rest → step s = exec c (s.setPending rest)) ∧
    (s.pending = [] → step s = .next s)

/-- Every step keeps the canonical form of memory, NOTICE asserted exactly while a latched cause is unmasked
(R198), and the fairness count within 0..8 (R184). -/
def Obligations.SoundKept : Prop :=
  ∀ s t : State, s.Sound → step s = .next t → t.Sound

/-- Every step keeps the sizes of the part's tables and the bounds of its counts. -/
def Obligations.BoundedKept : Prop :=
  ∀ s t : State, s.Bounded → step s = .next t → t.Bounded

/-- Both invariants hold right after reset. -/
def Obligations.InvariantsAtReset : Prop := State.reset.Sound ∧ State.reset.Bounded

/-- With nothing waiting, the settling at the end of a step changes nothing. -/
def Obligations.SettleQuiet : Prop := ∀ s : State, s.quiet = true → s.settle = s

/-- While RESET is asserted no command but its release changes anything (R180: no beat is taken and no block runs;
that a command names an event which then does not happen is the model's choice, log 7).
RESET_RELEASE latches the straps, sets the part state and asks for one status block write (R1, R2, R202); the
plan area base and the fitted size follow from the straps (R1). With RESET released it does nothing (log 7). -/
def Obligations.ResetReleased : Prop :=
  (∀ (c : Instr) (s : State), c.wellFormed = true → s.inReset = true → (∀ b p m, c ≠ .resetRelease b p m) →
    exec c s = .next s) ∧
  (∀ (s : State) (bypass : Bool) (planSel memSize : BitVec 2),
    (s.inReset = true → exec (.resetRelease bypass planSel memSize) s = .next
      { s with
        inReset := false
        straps := ⟨bypass, planSel, memSize⟩
        part := if bypass then .bypass else .unplanned
        notice := { s.notice with wanted := true } }) ∧
    (s.inReset = false → exec (.resetRelease bypass planSel memSize) s = .next s) ∧
    (∀ t, exec (.resetRelease bypass planSel memSize) s = .next t → s.inReset = true →
      t.planBase = [0, 64 * 2 ^ 20, 256 * 2 ^ 20, 2 ^ 30].getD planSel.toNat 0 ∧
      t.fitted = [8 * 2 ^ 30, 16 * 2 ^ 30, 32 * 2 ^ 30, 64 * 2 ^ 30].getD memSize.toNat 0))

/-- RESET_ASSERT returns every block to its reset state and keeps the frame store: a byte that no write in flight
stores to keeps its value, and (memory in canonical form, as SoundKept keeps it) a unit that no write in flight
straddles holds its earlier content or what one of the writes in flight to it leaves, never a mixture (R2, R23, R48, R62,
R116, R140, R142, R168, R180, R186, R191, R202). That the part state reads UNPLANNED and the straps keep their values
while RESET is asserted is the model's choice (log 2), that the job record's fields other than IDLE and its two counts,
and the numbers of a FREE slot, are 0 likewise (log 45), and the `responses` are its own record (log 5). -/
def Obligations.ResetAsserted : Prop :=
  ∀ s : State, s.inReset = false →
    ∃ t, exec .resetAssert s = .next t ∧ t.inReset = true ∧ t.part = .unplanned ∧
      t.bus = { BusFront.initial with responses := s.bus.responses } ∧ t.capture = Capture.initial ∧ t.fetch = [] ∧
      t.pipe = Pipeline.initial ∧ t.merge = MergeBuffer.initial ∧ t.expo = ExposureCtl.initial ∧
      t.prod = ProductCtl.initial ∧ t.loader = Loader.initial ∧ t.notice = Notice.initial ∧ t.port = Port.initial ∧
      t.straps = s.straps ∧ t.pending = s.pending ∧
      (∀ a, s.unwritten a → t.mem.readByte a = s.mem.readByte a) ∧
      ∀ u, s.mem.wf = true →
        (∀ x ∈ s.port.inFlight, x.isWrite = true → x.unit = u ∨ x.unit + 8 ≤ u ∨ u + 8 ≤ x.unit) →
        t.mem.readUnit u = s.mem.readUnit u ∨
        ∃ x ∈ s.port.inFlight, x.unit = u ∧ ∃ after found, x.kind = .write after found ∧ t.mem.readUnit u = after

/-! ### Frames over all commands -/

/-- Memory, bytes and check bits alike, changes only where a write in flight lands, and only at a command that completes
writes (the delivery of a frame bus read completes the unreported writes of its unit granted before it, log 11); the
model's upsets change the granted unit alone (log 4). -/
def Obligations.FrameMemory : Prop :=
  ∀ (c : Instr) (s t : State), exec c s = .next t →
    (landsWrites c = false → (∀ x, c ≠ .portGrant (some x)) → t.mem = s.mem) ∧
    (landsWrites c = true →
      (∀ a, s.unwritten a → t.mem.readByte a = s.mem.readByte a) ∧
      (∀ u, (∀ x ∈ s.port.inFlight, x.isWrite = true → x.unit ≠ u) → t.mem.condition u = s.mem.condition u)) ∧
    (∀ x, c = .portGrant (some x) →
      (∀ a, (∀ k, s.nextAsk = some k → a < k.unit ∨ k.unit + 8 ≤ a) → t.mem.readByte a = s.mem.readByte a) ∧
      (∀ u, (∀ k, s.nextAsk = some k → k.unit ≠ u) → t.mem.condition u = s.mem.condition u))

/-- What is set by one thing is set by nothing else: the plan in force, its generation and the part state only by
PLAN_BODY_BEAT_DELIVERED and reset (R2, R14, R21), the straps only by the release of RESET (R1), the mask only by a
mask word and reset (R200), the latched set only by an acknowledge word, the completion of a status block, a RESTART
and reset (R198, R199, R202), and NOTICE only with one of them. A FRAME_BUS_WRITE_COMPLETE can complete the write of a
control word, so it is left out where the words are named. -/
def Obligations.FrameControl : Prop :=
  ∀ (c : Instr) (s t : State), exec c s = .next t → c ≠ .resetAssert →
    ((∀ w, c ≠ .planBodyBeatDelivered w) → (∀ b p m, c ≠ .resetRelease b p m) →
      t.loader.plan = s.loader.plan ∧ t.loader.generation = s.loader.generation ∧ t.part = s.part) ∧
    ((∀ b p m, c ≠ .resetRelease b p m) → t.straps = s.straps) ∧
    ((∀ w, c ≠ .frameBusWriteComplete w) →
      (c ≠ .maskWord → t.notice.mask = s.notice.mask) ∧
      (c ≠ .acknowledgeWord → c ≠ .statusWriteComplete → c ≠ .restart → t.notice.latched = s.notice.latched) ∧
      (c ≠ .maskWord → c ≠ .acknowledgeWord → c ≠ .statusWriteComplete → c ≠ .restart →
        t.notice.line = s.notice.line))

/-! ### Frame bus beats (R169 to R173) -/

/-- The routing table, first row first (R170); a unit's window bounds are those of R5, R6, R9 and R163. -/
def Obligations.RouteTable : Prop :=
  ∀ (s : State) (u : Nat),
    (s.fitted ≤ u → s.route u = .beyond) ∧
    (u < s.fitted →
      (s.part = .bypass → s.route u = .ordinary) ∧
      (s.part ≠ .bypass → s.planBase ≤ u → u < s.planBase + 2 ^ 20 → s.route u = .planArea) ∧
      (u < s.planBase ∨ s.planBase + 2 ^ 20 ≤ u →
        (s.part = .unplanned → s.route u = .ordinary) ∧
        ∀ p, s.part = .planned → s.loader.plan = some p →
          (p.bank0 ≠ 0 → p.bank0 ≤ u → u < p.bank0 + 2 ^ 32 → s.route u = .raw 0) ∧
          ((p.bank0 = 0 ∨ u < p.bank0 ∨ p.bank0 + 2 ^ 32 ≤ u) →
            (p.bank1 ≠ 0 → p.bank1 ≤ u → u < p.bank1 + 2 ^ 32 → s.route u = .raw 1) ∧
            ((p.bank1 = 0 ∨ u < p.bank1 ∨ p.bank1 + 2 ^ 32 ≤ u) →
              (∀ l1 e l2, p.products = l1 ++ e :: l2 → (∀ x ∈ l1, x.holdsCell u = false) →
                e.base ≠ 0 → e.base ≤ u → u < e.base + 8 * (e.width * e.height) → s.route u = .cell l1.length) ∧
              ((∀ x ∈ p.products, x.base = 0 ∨ u < x.base ∨ x.base + 8 * (x.width * x.height) ≤ u) →
                (∀ l1 e l2, p.products = l1 ++ e :: l2 → (∀ x ∈ l1, x.holdsView u = false) →
                  e.base ≠ 0 → e.viewBase ≠ 0 → e.viewBase ≤ u →
                  u < e.viewBase + (2 * (e.width * e.height) + 7) / 8 * 8 → s.route u = .view l1.length) ∧
                ((∀ x ∈ p.products, x.holdsView u = false) → s.route u = .ordinary))))))

/-- The nine beat commands have one meaning, by the beat they name; a beat no transaction has stops the part
(R169, R170; that the row's name decides nothing is log 15). A beat of a master that waits is stalled behind it
(R169). A beat beyond fitted DRAM gets an error response, with no port access, and takes no lock (R171, R172). -/
def Obligations.BeatsByAddress : Prop :=
  ∀ (c d : Instr) (b : BusBeat) (s : State), beatOf c = some b →
    (beatOf d = some b → exec c s = exec d s) ∧
    (beatWellFormed b.index b.length = false → exec c s = .fault .malformedBeat) ∧
    (c.wellFormed = true → s.inReset = false → s.masterHeld b.master = true →
      exec c s = .next (s.onBus fun f => { f with stalled := f.stalled ++ [b] })) ∧
    (s.Takes b → s.fitted ≤ b.unit → exec c s = .next (s.respond b .error).settle)

/-- A beat of ordinary memory or of the plan area is asked of the port, a read of its unit, a write with its own byte
enables (R5, R170); a write with a byte enabled into the plan body while a load is in progress marks the load changed
(R13). -/
def Obligations.MemoryBeats : Prop :=
  ∀ (s : State) (m : Nat) (a : BitVec 36) (i n : Nat) (e : BitVec 8) (d : Word),
    let unit := a.toNat / 8 * 8 + 8 * i
    (s.Takes (readBeat m a i n) → s.route unit = .ordinary ∨ s.route unit = .planArea →
      exec (.frameBusReadBeat m a i n) s = .next (s.ask ⟨.busRead (readBeat m a i n), unit, none⟩).settle) ∧
    (s.Takes (writeBeat m a i n e d) →
      let store (t : State) : State := t.ask ⟨.busWrite (writeBeat m a i n e d) false, unit, some ⟨e, d⟩⟩
      (s.route unit = .ordinary → exec (.frameBusWriteBeat m a i n e d) s = .next (store s).settle) ∧
      (s.route unit = .planArea →
        (∀ l, s.loader.load = some l → unit < s.planBase + 0x2D40 → e ≠ 0#8 →
          exec (.frameBusWriteBeat m a i n e d) s =
            .next (store (s.onLoader fun x => { x with load := some { l with changed := true } })).settle) ∧
        (s.loader.load = none ∨ s.planBase + 0x2D40 ≤ unit ∨ e = 0#8 →
          exec (.frameBusWriteBeat m a i n e d) s = .next (store s).settle)))

/-- A write beat in a raw bank window that no slot takes. At an unbound bank it is stored as ordinary memory and
counted, as late while the late condition stands and as unclaimed otherwise (R26). At a bound bank, with nothing
enabled, outside every row of the plan, or of an excluded tile, it is counted as its case says (R27) and is stored
under CAPTURE and completed without a store otherwise (R28). -/
def Obligations.RawUnused : Prop :=
  ∀ (s : State) (m : Nat) (a : BitVec 36) (i n : Nat) (e : BitVec 8) (d : Word) (bank : Nat),
    let b := writeBeat m a i n e d
    s.Takes b → s.route b.unit = .raw bank →
    ((s.bank bank).bound = false → exec (.rawWriteBeat m a i n e d) s = .next ((s.onCapture fun c =>
      if (s.bank bank).late then { c with late := min (c.late + 1) 4294967295 }
      else { c with unclaimed := min (c.unclaimed + 1) 4294967295 }).askStore false b).settle) ∧
    ∀ (r : ExposureRecord) (x : RawPlace), (s.bank bank).bound = true → s.recordOf bank = some r →
      rawPlace (b.unit - s.bankBase bank) = x →
      let finish (t : State) : State := if r.capture then t.askStore false b else t.respond b .done
      (e = 0#8 → exec (.rawWriteBeat m a i n e d) s = .next (finish s).settle) ∧
      (e ≠ 0#8 →
        (s.segment x.segment = none ∨
          (∃ g, s.segment x.segment = some g ∧ (g.rows ≤ x.row ∨ g.width + g.overscan ≤ x.column)) →
          exec (.rawWriteBeat m a i n e d) s =
            .next (finish (s.onCapture fun c => { c with stray := min (c.stray + 1) 4294967295 })).settle) ∧
        (∀ g why, s.segment x.segment = some g → x.row < g.rows → x.column < g.width + g.overscan →
          (g.tile, why) ∈ r.excluded →
          exec (.rawWriteBeat m a i n e d) s = .next (finish (s.onRecord bank fun r =>
            { r with counters := { r.counters with
              excludedBeats := min (r.counters.excludedBeats + 1) 4294967295 } })).settle))

/-- A raw write beat of an included segment. A beat whose pixels are stored records one PARTIAL_BEAT if some pixel is
partly covered, and its covered pixels are received (R33, R34); under CAPTURE the beat is stored in memory too (R28).
With no row of its segment collected it opens the lowest-numbered FREE slot, whose absent frames are DEFAULT and whose
present ones are PENDING with a fetch each (R30, R52). Of the row being collected, a beat before the next expected column
is discarded with OUT_OF_ORDER and any other is stored (R31); that the discarded one records no PARTIAL_BEAT is the
model's inference (log 22). A beat with the last column closes the row, one that opens it too: COMPLETE when every column
has been received, else GAPPED at the lowest missing one (R30, R35). A beat of another row closes the row SHORT and is then
taken as one whose segment has no row collected (R32).
A closing row: a duplicate records DUPLICATE_ROW alone and its slot becomes FREE, its fetches abandoned (R37, R58);
another one records its closure's fault and is CLOSED, or joins the tail of the ready queue when no frame of it is
PENDING (R35, R36, R43). It is a duplicate when its row is done in the exposure's row map or held CLOSED, QUEUED or
APPLYING by another slot of the exposure (R37). -/
def Obligations.RawRows : Prop :=
  (∀ (s : State) (m : Nat) (a : BitVec 36) (i n : Nat) (e : BitVec 8) (d : Word) (bank : Nat) (r : ExposureRecord)
    (x : RawPlace) (g : SegmentEntry) (t : TileEntry) (l1 : List Slot) (v : Slot) (l2 : List Slot),
    s.Takes (writeBeat m a i n e d) → s.capture.held = [] →
    s.route (writeBeat m a i n e d).unit = .raw bank →
    (s.bank bank).bound = true → s.recordOf bank = some r →
    rawPlace ((writeBeat m a i n e d).unit - s.bankBase bank) = x → e ≠ 0#8 →
    s.segment x.segment = some g → s.tile g.tile = some t → x.row < g.rows → x.column < g.width + g.overscan →
    (∀ y ∈ r.excluded, y.1 ≠ g.tile) → s.collecting bank x.segment = none →
    s.capture.slots = l1 ++ v :: l2 → v.state = .free → (∀ y ∈ l1, y.state ≠ .free) →
    let b := writeBeat m a i n e d
    let w := g.width + g.overscan
    let finish (u : State) : State := if r.capture then u.askStore false b else u.respond b .done
    let struck : State := if [0, 1, 2, 3].any fun k => e.getLsbD (2 * k) != e.getLsbD (2 * k + 1) then
      s.recordFault bank .partialBeat x.segment x.row x.column else s
    let got := ((List.range 4).filter fun j => e.getLsbD (2 * j) && e.getLsbD (2 * j + 1)).map fun j =>
      (x.column + j, d.extractLsb' (16 * j) 16)
    let osc := got.filter fun p => decide (g.width ≤ p.1)
    let frame (base : Nat) : FrameHold := ⟨some (if base = 0 then .absent else .pending), []⟩
    let fetches (f : Frame) (base : Nat) : List Fetch := if base = 0 then [] else
      [⟨l1.length, f, base + g.index * t.stride + x.row * t.pitch, g.width / 4, 0, []⟩]
    let slot : Slot :=
      { state := .collecting, bank := bank, tag := r.tag, segment := x.segment, row := x.row, next := x.column + 4,
        pixels := got, oscSum := (osc.map fun p => p.2.toNat).sum, oscCount := osc.length, closure := none,
        zero := frame t.zeroBase, dark := frame t.darkBase, flat := frame t.flatBase }
    let taken : State := ((struck.onCapture fun c => { c with slots := l1 ++ slot :: l2 }).setFetch
      (s.fetch ++ fetches .zero t.zeroBase ++ fetches .dark t.darkBase ++ fetches .flat t.flatBase)).fetchAsk
    (x.column + 4 ≠ w → exec (.rawWriteBeat m a i n e d) s = .next (finish taken).settle) ∧
    (x.column + 4 = w → (∀ c < w, ∃ p ∈ got, p.1 = c) →
      exec (.rawWriteBeat m a i n e d) s = .next (finish (taken.closeRow l1.length .complete 0)).settle) ∧
    (∀ c < w, x.column + 4 = w → (∀ p ∈ got, p.1 ≠ c) → (∀ c' < c, ∃ p ∈ got, p.1 = c') →
      exec (.rawWriteBeat m a i n e d) s = .next (finish (taken.closeRow l1.length .gapped c)).settle)) ∧
  (∀ (s : State) (m : Nat) (a : BitVec 36) (i n : Nat) (e : BitVec 8) (d : Word) (bank : Nat) (r : ExposureRecord)
    (x : RawPlace) (g : SegmentEntry) (j : Nat),
    s.Takes (writeBeat m a i n e d) → s.capture.held = [] → s.route (writeBeat m a i n e d).unit = .raw bank →
    (s.bank bank).bound = true → s.recordOf bank = some r →
    rawPlace ((writeBeat m a i n e d).unit - s.bankBase bank) = x → e ≠ 0#8 →
    s.segment x.segment = some g → x.row < g.rows → x.column < g.width + g.overscan →
    (∀ y ∈ r.excluded, y.1 ≠ g.tile) → s.collecting bank x.segment = some j →
    let b := writeBeat m a i n e d
    let w := g.width + g.overscan
    let finish (u : State) : State := if r.capture then u.askStore false b else u.respond b .done
    let struck : State := if [0, 1, 2, 3].any fun k => e.getLsbD (2 * k) != e.getLsbD (2 * k + 1) then
      s.recordFault bank .partialBeat x.segment x.row x.column else s
    let got := ((List.range 4).filter fun k => e.getLsbD (2 * k) && e.getLsbD (2 * k + 1)).map fun k =>
      (x.column + k, d.extractLsb' (16 * k) 16)
    let osc := got.filter fun p => decide (g.width ≤ p.1)
    let pixels := (s.slot j).pixels ++ got
    let stored : State := struck.setSlot j { s.slot j with
      next := x.column + 4
      pixels := pixels
      oscSum := (s.slot j).oscSum + (osc.map fun p => p.2.toNat).sum
      oscCount := (s.slot j).oscCount + osc.length }
    ((s.slot j).row = x.row →
      (x.column < (s.slot j).next → exec (.rawWriteBeat m a i n e d) s =
        .next (finish (s.recordFault bank .outOfOrder x.segment x.row x.column)).settle) ∧
      ((s.slot j).next ≤ x.column → x.column + 4 ≠ w →
        exec (.rawWriteBeat m a i n e d) s = .next (finish stored).settle) ∧
      ((s.slot j).next ≤ x.column → x.column + 4 = w → (∀ c < w, ∃ p ∈ pixels, p.1 = c) →
        exec (.rawWriteBeat m a i n e d) s = .next (finish (stored.closeRow j .complete 0)).settle) ∧
      (∀ c < w, (s.slot j).next ≤ x.column → x.column + 4 = w → (∀ p ∈ pixels, p.1 ≠ c) →
        (∀ c' < c, ∃ p ∈ pixels, p.1 = c') →
        exec (.rawWriteBeat m a i n e d) s = .next (finish (stored.closeRow j .gapped c)).settle)) ∧
    ((s.slot j).row ≠ x.row →
      (∀ k, k ≠ j → (s.slot k).state = .collecting → (s.slot k).bank = bank → (s.slot k).segment ≠ x.segment) →
      exec (.rawWriteBeat m a i n e d) s =
        exec (.rawWriteBeat m a i n e d) (s.closeRow j .short (s.slot j).next))) ∧
  (∀ (s : State) (i column : Nat) (kind : Closure), i < s.capture.slots.length →
    let v := s.slot i
    let faulted : State := match kind with
      | .complete => s
      | .gapped => s.recordFault v.bank .gappedRow v.segment v.row column
      | .short => s.recordFault v.bank .shortRow v.segment v.row column
    (s.isDuplicate i = true ↔
      (∃ r, s.recordOf v.bank = some r ∧ (v.segment, v.row) ∈ r.rowMap) ∨
      ∃ j, j ≠ i ∧ j < s.capture.slots.length ∧ (s.slot j).bank = v.bank ∧ (s.slot j).segment = v.segment ∧
        (s.slot j).row = v.row ∧
        ((s.slot j).state = .closed ∨ (s.slot j).state = .queued ∨ (s.slot j).state = .applying)) ∧
    (s.isDuplicate i = true →
      s.closeRow i kind column = (s.recordFault v.bank .duplicateRow v.segment v.row 0).freeSlot i) ∧
    (s.isDuplicate i = false → (∃ h ∈ [v.zero, v.dark, v.flat], h.status = some .pending) →
      s.closeRow i kind column = faulted.setSlot i { v with state := .closed, closure := some kind }) ∧
    (s.isDuplicate i = false → (∀ h ∈ [v.zero, v.dark, v.flat], h.status ≠ some .pending) →
      s.closeRow i kind column = (faulted.setSlot i { v with state := .queued, closure := some kind }).onCapture
        fun c => { c with ready := c.ready ++ [i] }) ∧
    s.freeSlot i = (((s.setSlot i Slot.blank).setFetch (s.fetch.filter fun f => !decide (f.slot = i))).onPort
      fun p => { p with
        asks := p.asks.filter fun k => !isCalReadOf i k.job
        inFlight := p.inFlight.map fun k => if isCalReadOf i k.job then { k with job := .calDiscard } else k }).fetchAsk)

/-- A raw write beat that needs a slot with none FREE joins the tail of the held beats with the hold limit in force
(R39, R41). FREE slots are handed to held beats, the longest held first, until slots or beats run out: a beat whose
segment has no row collected opens the slot; one of the row collected is taken into it; one of another row closes that
row SHORT and opens the slot; the held beats of the row it opens follow it (R40). That those left once the row has
closed stay held is the model's choice (log 41), and so is that a lock on a held beat's unit does not hold it on (log 46).
HOLD_LIMIT_EXPIRY: the beat that a master has held is lost. LOST_BEAT is recorded, its pixels reach no slot, and it
completes without an error response, stored under CAPTURE (R41).
A fault against an exposure: its fault total and the fault counter of the segment's tile each increase by one, held at
their 32 bits, and the first-fault record is filled if it is absent (R38, R127). -/
def Obligations.HoldLimitReached : Prop :=
  (∀ (s : State) (m : Nat) (a : BitVec 36) (i n : Nat) (e : BitVec 8) (d : Word) (bank : Nat) (r : ExposureRecord)
    (x : RawPlace) (g : SegmentEntry) (p : Plan),
    s.Takes (writeBeat m a i n e d) → s.route (writeBeat m a i n e d).unit = .raw bank →
    (s.bank bank).bound = true → s.recordOf bank = some r → s.loader.plan = some p →
    rawPlace ((writeBeat m a i n e d).unit - s.bankBase bank) = x → e ≠ 0#8 →
    s.segment x.segment = some g → x.row < g.rows → x.column < g.width + g.overscan →
    (∀ y ∈ r.excluded, y.1 ≠ g.tile) → s.collecting bank x.segment = none →
    (∀ v ∈ s.capture.slots, v.state ≠ .free) → (∀ h ∈ s.capture.held, h.arriving = false) →
    exec (.rawWriteBeat m a i n e d) s = .next (s.onCapture fun c => { c with held := c.held ++
      [⟨writeBeat m a i n e d, bank, x.segment, x.row, x.column, p.holdLimit, false⟩] }).settle) ∧
  (∀ (s : State),
    (s.capture.held = [] ∨ (∀ v ∈ s.capture.slots, v.state ≠ .free) → s.handOn = s) ∧
    (∀ h rest l1 v l2, s.capture.held = h :: rest → s.capture.slots = l1 ++ v :: l2 → v.state = .free →
      (∀ y ∈ l1, y.state ≠ .free) →
      s.handOn = ((s.onCapture fun c => { c with held := rest }).takeHeld l1.length h).handOn) ∧
    (∀ i h,
      (s.collecting h.bank h.segment = none → s.takeHeld i h = s.openRow i h) ∧
      (∀ j, s.collecting h.bank h.segment = some j →
        ((s.slot j).row = h.row → s.takeHeld i h = (s.continueRow j h).completeRaw h) ∧
        ((s.slot j).row ≠ h.row → s.takeHeld i h = (s.closeRow j .short (s.slot j).next).openRow i h)) ∧
      (∀ r, s.recordOf h.bank = some r →
        let opened : State := (((s.setSlot i { Slot.blank with
          state := .collecting, bank := h.bank, tag := r.tag, segment := h.segment, row := h.row,
          next := h.column }).startFetches i).storeBeat i h).completeRaw h
        let same (x : HeldBeat) : Prop := x.bank = h.bank ∧ x.segment = h.segment ∧ x.row = h.row
        ((∀ x ∈ s.capture.held, ¬same x) ∨
            (∀ j, opened.collecting h.bank h.segment = some j → (opened.slot j).row ≠ h.row) →
          s.openRow i h = opened) ∧
        (∀ l1 x l2, s.capture.held = l1 ++ x :: l2 → same x → (∀ y ∈ l1 ++ l2, ¬same y) →
          opened.collecting h.bank h.segment = some i → (opened.slot i).row = h.row →
          s.openRow i h = ((opened.onCapture fun c => { c with held := l1 ++ l2 }).continueRow i x).completeRaw x)))) ∧
  (∀ (s : State) (m : Nat) (h : HeldBeat) (r : ExposureRecord),
    s.inReset = false → s.capture.held.find? (fun x => decide (x.beat.master = m)) = some h →
    s.recordOf h.bank = some r →
    let others := s.capture.held.filter fun x => !decide (x.beat.master = m)
    let lost : State := (s.onCapture fun c => { c with held := others }).recordFault h.bank .lostBeat h.segment h.row h.column
    exec (.holdLimitExpiry m) s = .next
      (if r.capture then (lost.respond h.beat .done).askStore true h.beat
       else if h.beat.pair then (lost.respond h.beat .done).endLock else lost.respond h.beat .done).settle) ∧
  (∀ (s : State) (bank : Nat) (kind : FaultKind) (segment row column : Nat),
    s.recordFault bank kind segment row column = s.onRecord bank fun r => { r with
      counters := { r.counters with faultTotal := min (r.counters.faultTotal + 1) 4294967295 }
      included := r.included.map fun t =>
        if (s.segment segment).map (fun g => g.tile) = some t.tile then { t with faults := min (t.faults + 1) 4294967295 }
        else t
      firstFault := r.firstFault.or (some ⟨kind, segment, row, column⟩) })

/-- A read beat in an accumulator region: served from a CLEAN, DIRTY or WRITING entry as its record stands, held on
a FILLING one, and carried out against memory where the buffer does not hold the cell or the product is not OPEN
(R109, R110, R161). -/
def Obligations.CellReads : Prop :=
  ∀ (s : State) (m : Nat) (a : BitVec 36) (i n p : Nat),
    s.Takes (readBeat m a i n) → s.route (readBeat m a i n).unit = .cell p →
    let b := readBeat m a i n
    (∀ k e, (s.product p).state = .opened → s.entryOf b.unit = some k → s.entry k = some e →
      (e.state ≠ .filling → exec (.cellReadBeat m a i n) s = .next (s.respond b (.data e.record.word)).settle) ∧
      (e.state = .filling → exec (.cellReadBeat m a i n) s =
        .next (s.onBus fun f => { f with heldCells := f.heldCells ++ [b] }).settle)) ∧
    ((s.product p).state ≠ .opened ∨ s.entryOf b.unit = none →
      exec (.cellReadBeat m a i n) s = .next (s.askRead b).settle)

/-- A write beat with a byte enabled in the accumulator region of an OPEN product: the entry's state decides
whether it is stored at once, stored with the entry dropped and its contributions lost, or held (R111, R114). With no
byte enabled it completes and leaves the entry (R111). EMPTY and CLEARING are plain memory (R109). A FILLING entry whose
fill is not asked is freed at once: it leaves the use order, its pixel stays waiting to miss again, and the write goes
on as for a cell not held (R97); that the reads held on the freed entry are asked of memory, and the view reads held on it
resume, ahead of that write, is the model's choice (log 32). -/
def Obligations.CellWrites : Prop :=
  (∀ (s : State) (m : Nat) (a : BitVec 36) (i n p : Nat) (en : BitVec 8) (d : Word),
    s.Takes (writeBeat m a i n en d) → s.route (writeBeat m a i n en d).unit = .cell p →
    let b := writeBeat m a i n en d
    let held : State := s.onBus fun f => { f with heldCells := f.heldCells ++ [b] }
    ((s.product p).state = .opened → en = 0#8 → exec (.cellWriteBeat m a i n en d) s = .next (s.respond b .done).settle) ∧
    ((s.product p).state = .opened → en ≠ 0#8 → s.entryOf b.unit = none →
      exec (.cellWriteBeat m a i n en d) s = .next (s.askStore false b).settle) ∧
    (∀ k e, (s.product p).state = .opened → en ≠ 0#8 → s.entryOf b.unit = some k → s.entry k = some e →
      (e.state = .clean → exec (.cellWriteBeat m a i n en d) s = .next ((s.dropEntry k).askStore false b).settle) ∧
      (e.state = .dirty → e.writeOutstanding = false → exec (.cellWriteBeat m a i n en d) s =
        .next (((s.dropEntry k).onMerge fun x =>
          { x with overwritten := min (x.overwritten + 1) 4294967295 }).askStore false b).settle) ∧
      (e.state = .dirty → e.writeOutstanding = true → exec (.cellWriteBeat m a i n en d) s = .next held.settle) ∧
      (e.state = .writing → exec (.cellWriteBeat m a i n en d) s = .next held.settle) ∧
      (e.state = .filling → e.fillAsked = true → exec (.cellWriteBeat m a i n en d) s = .next held.settle) ∧
      (e.state = .filling → e.fillAsked = false → exec (.cellWriteBeat m a i n en d) s =
        .next ((s.freeUnasked k e.addr).askStore false b).settle)) ∧
    ((s.product p).state = .empty ∨ (s.product p).state = .clearing →
      exec (.cellWriteBeat m a i n en d) s = .next (s.askStore false b).settle)) ∧
  (∀ (s : State) (i addr : Nat),
    let here (b : BusBeat) : Bool := !b.write && !b.locked && decide (b.unit = addr)
    let freed : State := (s.dropEntry i).onPipe fun p => { p with applying := p.applying.map fun a =>
      { a with pixel := a.pixel.map fun w => if w.2 = .fill then (w.1, .access) else w } }
    s.freeUnasked i addr = ((freed.onBus fun f => { f with heldCells := f.heldCells.filter fun b => !here b }).onPort
      fun p => { p with asks := p.asks ++ (s.bus.heldCells.filter here).map fun b =>
        ⟨.busRead b, b.unit, none⟩ }).resumeViewsOn addr)

/-- A dropped entry is free, out of the use order and no longer listed in any flush; its asked write is withdrawn; every
other entry, ask and flush member and everything else of the part stay as they were, in their order (R94, R101, R103).
Dropping the entries that a condition picks frees those and no other, and takes them out of the use order. -/
def Obligations.EntryDropped : Prop :=
  (∀ (s : State) (i : Nat),
    (s.dropEntry i).entry i = none ∧
    (∀ j, j ≠ i → (s.dropEntry i).entry j = s.entry j) ∧
    s.dropEntry i = { s with
      merge := { s.merge with
        entries := s.merge.entries.set i none
        order := s.merge.order.filter fun j => decide (j ≠ i)
        flushes := s.merge.flushes.map fun f => { f with members := f.members.filter fun x => decide (x.entry ≠ i) } }
      port := { s.port with asks := s.port.asks.filter fun k => decide (k.job ≠ .writeBack i) } }) ∧
  (∀ (s : State) (pick : Entry → Bool) (j : Nat),
    (s.dropEntries pick).entry j = (if (s.entry j).any pick then none else s.entry j) ∧
    (j ∈ (s.dropEntries pick).merge.order ↔ j ∈ s.merge.order ∧ (s.entry j).any pick = false))

/-- A write in the accumulator region of a FROZEN or RENDERING product, and every write in a view region, completes
without an error response and is not stored; with a byte enabled it is counted and PROTECT is raised (R161, R165). That
one with no byte enabled is neither counted nor noticed in a view region too, of which R165 says nothing, is the
model's inference (log 33). -/
def Obligations.ProtectedWrites : Prop :=
  ∀ (s : State) (m : Nat) (a : BitVec 36) (i n p : Nat) (e : BitVec 8) (d : Word),
    let b := writeBeat m a i n e d
    s.Takes b →
    let counted : State := if e = 0#8 then s else
      (s.onBus fun f => { f with protectCount := min (f.protectCount + 1) 4294967295 }).raise .protect
    (s.route b.unit = .cell p → (s.product p).state = .frozen ∨ (s.product p).state = .rendering →
      exec (.protectedWriteBeat m a i n e d) s = .next (counted.respond b .done).settle) ∧
    (s.route b.unit = .view p → exec (.viewWriteBeat m a i n e d) s = .next (counted.respond b .done).settle)

/-- A locked read with no lock standing records the lock and is routed (R172): to memory, the plan area, a raw bank, or a
cell that the buffer does not hold or whose product is not OPEN, as a read; for a held cell of an OPEN product the
entry is dropped first, or the read is held until it can be (R113); in a view region it is answered at once, the port's
hold then beginning here, or its first position is read and the hold begins at that grant (R164, R185). A locked
transaction of another shape gets an error response and takes no lock, and never waits for one (R172).
While a lock stands: the locking master's write of one beat to the unit is the pair's write, stored by the rules of
its region, or completed with the lock ended where it is not stored (R111, R161, R165, R173). Any other beat of that
master releases the lock and follows the beats held on it; that it follows them is the model's inference (log 19), and
that a locked transaction of that master releases first likewise (log 20). Another master's beat to the unit and any
locked read of another master are held (R173). -/
def Obligations.LockedPairs : Prop :=
  (∀ (s : State) (m : Nat) (w : Bool) (a : BitVec 36) (i n : Nat) (e : BitVec 8) (d : Word) (b : BusBeat),
    beatOf (.lockedRead m w a i n e d) = some b → s.Takes b →
    (w = true ∨ n ≠ 1 → exec (.lockedRead m w a i n e d) s = .next (s.respond b .error).settle) ∧
    (w = false → n = 1 →
      let locked : State := s.onBus fun f => { f with lock := some ⟨m, b.unit, false⟩ }
      (s.route b.unit = .ordinary ∨ s.route b.unit = .planArea ∨ (∃ k, s.route b.unit = .raw k) →
        exec (.lockedRead m w a i n e d) s = .next (locked.askRead b).settle) ∧
      (∀ p, s.route b.unit = .cell p →
        ((s.product p).state ≠ .opened ∨ s.entryOf b.unit = none →
          exec (.lockedRead m w a i n e d) s = .next (locked.askRead b).settle) ∧
        ∀ k x, (s.product p).state = .opened → s.entryOf b.unit = some k → s.entry k = some x →
          (x.state = .clean → exec (.lockedRead m w a i n e d) s = .next ((locked.dropEntry k).askRead b).settle) ∧
          (x.state = .dirty ∨ x.state = .writing ∨ (x.state = .filling ∧ x.fillAsked = true) →
            exec (.lockedRead m w a i n e d) s =
              .next (locked.onBus fun f => { f with heldCells := f.heldCells ++ [b] }).settle) ∧
          (x.state = .filling → x.fillAsked = false →
            exec (.lockedRead m w a i n e d) s = .next ((locked.freeUnasked k x.addr).askRead b).settle)) ∧
      (∀ p q, s.route b.unit = .view p → s.productEntry p = some q →
        let first := (b.unit - q.viewBase) / 2
        ((s.product p).state = .empty ∨ (s.product p).state = .clearing → exec (.lockedRead m w a i n e d) s =
          .next ((locked.respond b (.data 0x8000800080008000#64)).onPort fun x => { x with hold := true }).settle) ∧
        (first < q.width * q.height → (s.product p).state = .frozen ∨ (s.product p).state = .rendering ∨
            ((s.product p).state = .opened ∧ s.entryOf (q.base + first * 8) = none) →
          exec (.lockedRead m w a i n e d) s = .next (locked.ask
            ⟨.viewRead ⟨b, p, q.width * q.height, q.base, first, [], true⟩, q.base + first * 8, none⟩).settle)))) ∧
  (∀ (s : State) (c : Instr) (b : BusBeat) (l : Lock),
    beatOf c = some b → c.wellFormed = true → s.inReset = false → s.masterHeld b.master = false →
    (s.bus.stalled.any fun x => decide (x.master = b.master)) = false → s.bus.lock = some l → l.pairTaken = false →
    (b.master = l.master → b.write = true → b.locked = false → b.length = 1 → b.unit = l.unit →
      let b' : BusBeat := { b with pair := true }
      let pair : State := s.onBus fun f => { f with lock := some { l with pairTaken := true } }
      let ended (t : State) : State := (t.onBus fun f => { f with lock := none }).onPort fun p => { p with hold := false }
      let counted : State := if b.enables = 0#8 then pair else
        (pair.onBus fun f => { f with protectCount := min (f.protectCount + 1) 4294967295 }).raise .protect
      (s.route b.unit = .ordinary → exec c s = .next (pair.askStore false b').settle) ∧
      (s.route b.unit = .planArea → s.loader.load = none ∨ s.planBase + 0x2D40 ≤ b.unit ∨ b.enables = 0#8 →
        exec c s = .next (pair.askStore false b').settle) ∧
      (∀ k, s.route b.unit = .raw k → (s.bank k).bound = false → exec c s = .next ((pair.onCapture fun x =>
        if (s.bank k).late then { x with late := min (x.late + 1) 4294967295 }
        else { x with unclaimed := min (x.unclaimed + 1) 4294967295 }).askStore false b').settle) ∧
      (∀ p, s.route b.unit = .cell p →
        ((s.product p).state = .empty ∨ (s.product p).state = .clearing ∨
            ((s.product p).state = .opened ∧ b.enables ≠ 0#8 ∧ s.entryOf b.unit = none) →
          exec c s = .next (pair.askStore false b').settle) ∧
        ((s.product p).state = .opened → b.enables = 0#8 →
          exec c s = .next (ended (pair.respond b' .done)).settle) ∧
        ((s.product p).state = .frozen ∨ (s.product p).state = .rendering →
          exec c s = .next (ended (counted.respond b' .done)).settle)) ∧
      (∀ p, s.route b.unit = .view p → exec c s = .next (ended (counted.respond b' .done)).settle)) ∧
    (b.master = l.master → (b.write = false ∨ b.locked = true ∨ b.length ≠ 1 ∨ b.unit ≠ l.unit) →
      exec c s = .next ((s.onBus fun f => { f with lock := none, lockWaiters := f.lockWaiters ++ [b] }).onPort
        fun p => { p with hold := false }).settle) ∧
    (b.master ≠ l.master → b.unit = l.unit → b.locked = false →
      exec c s = .next (s.onBus fun f => { f with lockWaiters := f.lockWaiters ++ [b] }).settle) ∧
    (b.master ≠ l.master → b.locked = true → b.write = false → b.length = 1 →
      exec c s = .next (s.onBus fun f => { f with lockWaiters := f.lockWaiters ++ [b] }).settle) ∧
    (b.locked = true → b.write = true ∨ b.length ≠ 1 →
      (b.master ≠ l.master → exec c s = .next (s.respond b .error).settle) ∧
      (b.master = l.master → s.quiet = true → exec c s = .next
        (((s.onBus fun f => { f with lock := none }).onPort fun p => { p with hold := false }).respond b .error)) ∧
      ∀ t : State, t.lockBlocks b = false))

/-- A view read beat: BLANK four times for an EMPTY or CLEARING product; the entries' records normalised, and BLANK
past the last cell, for an OPEN product that holds the cells; a read of the first cell's record where the buffer does
not hold it, or for a FROZEN or RENDERING product; and a wait where the first cell's entry is FILLING (R164). -/
def Obligations.ViewReads : Prop :=
  ∀ (s : State) (m : Nat) (a : BitVec 36) (i n p : Nat) (q : ProductEntry),
    s.Takes (readBeat m a i n) → s.route (readBeat m a i n).unit = .view p → s.productEntry p = some q →
    let b := readBeat m a i n
    let first := (b.unit - q.viewBase) / 2
    let v : ViewRead := ⟨b, p, q.width * q.height, q.base, first, [], false⟩
    ((s.product p).state = .empty ∨ (s.product p).state = .clearing →
      exec (.viewReadBeat m a i n) s = .next (s.respond b (.data 0x8000800080008000#64)).settle) ∧
    (∀ e : Nat → Entry, (s.product p).state = .opened →
      (∀ k < 4, first + k < q.width * q.height → (e k).state ≠ .filling ∧
        ∃ j, s.entryOf (q.base + (first + k) * 8) = some j ∧ s.entry j = some (e k)) →
      let value (k : Nat) : BitVec 16 := if first + k < q.width * q.height then
        normalise (e k).record.sum (e k).record.hits q.rs else 0x8000#16
      exec (.viewReadBeat m a i n) s =
        .next (s.respond b (.data (value 3 ++ value 2 ++ value 1 ++ value 0))).settle) ∧
    (first < q.width * q.height →
      ((s.product p).state = .frozen ∨ (s.product p).state = .rendering ∨
          ((s.product p).state = .opened ∧ s.entryOf (q.base + first * 8) = none) →
        exec (.viewReadBeat m a i n) s = .next (s.ask ⟨.viewRead v, q.base + first * 8, none⟩).settle) ∧
      (∀ j e, (s.product p).state = .opened → s.entryOf (q.base + first * 8) = some j → s.entry j = some e →
        e.state = .filling →
        exec (.viewReadBeat m a i n) s = .next (s.onBus fun f => { f with views := f.views ++ [v] }).settle))

/-! ### Completions on the bus and control words -/

/-- FRAME_BUS_READ_DELIVERED: the beat completes with the data, or with an error response when the unit was
uncorrectable (R171). The writes of its unit granted before it, whose own end no command reports, complete first
(R186, log 11).
FRAME_BUS_WRITE_COMPLETE: the unit holds the write; outside the control words nothing else happens, but that a
pair's write ends its lock (R173, R174, R186). In BYPASS no control word is taken (R3). A write that takes a control
word does not complete before that of an earlier beat of its burst that takes one (R174). -/
def Obligations.BusCompletions : Prop :=
  (∀ (s : State) (which unit : Nat) (b : BusBeat) (data : Word) (found : EccCondition) (rest : List Access),
    let t : State := s.landBefore isBusRead which
    t.Delivers isBusRead which (.busRead b) unit data found rest →
    exec (.frameBusReadDelivered which) s = .next ((t.delivered found rest).respond b
      (if found = .uncorrectable then .error else .data data))) ∧
  (∀ (s : State) (b : BusBeat) (unit : Nat) (data : Word) (found : EccCondition) (before later : List Access),
    s.port.inFlight = before ++ ⟨.busRead b, unit, .read data found⟩ :: later → blockedBy before unit = false →
    let which := before.countP fun x => !x.isWrite && isBusRead x.job
    ((∀ x ∈ before, x.isWrite = true → x.unit ≠ unit) → s.landBefore isBusRead which = s) ∧
    (∀ l1 l2 job w f, before = l1 ++ ⟨job, unit, .write w f⟩ :: l2 → (∀ x ∈ l2, x.isWrite = true → x.unit ≠ unit) →
      s.landBefore isBusRead which = (s.setMem (s.mem.writeUnit unit w)).onPort fun p => { p with
        inFlight := before.filter (fun x => !x.writesTo unit) ++ ⟨.busRead b, unit, .read data found⟩ :: later })) ∧
  (∀ (s : State) (which unit : Nat) (b : BusBeat) (ready : Bool) (after : StoredUnit) (found : Option EccCondition)
    (rest : List Access),
    s.Completes isBusWrite which (.busWrite b ready) unit after found rest →
    (s.part = .bypass ∨ s.wordAt b.unit = none ∨ b.enables.extractLsb' 0 4 = 0#4 →
      exec (.frameBusWriteComplete which) s = .next
        (if b.pair then (s.landed unit after found rest).endLock else s.landed unit after found rest).settle)) ∧
  (∀ (s : State) (unit : Nat) (b c : BusBeat) (ready : Bool) (after : StoredUnit) (found : Option EccCondition)
    (before later : List Access),
    s.inReset = false → s.port.inFlight = before ++ ⟨.busWrite b ready, unit, .write after found⟩ :: later →
    (∃ x ∈ before, ∃ r, x.job = .busWrite c r) → s.part ≠ .bypass →
    s.wordAt b.unit ≠ none → b.enables.extractLsb' 0 4 = 0xF#4 →
    s.wordAt c.unit ≠ none → c.enables.extractLsb' 0 4 = 0xF#4 →
    c.master = b.master → c.addr = b.addr → c.length = b.length → c.index < b.index →
    exec (.frameBusWriteComplete (before.countP fun x => x.isWrite && isBusWrite x.job)) s = .next s)

/-- VIEW_POSITION_DELIVERED: an uncorrectable record ends the beat with an error response; otherwise the position takes
the record normalised with the installed rs, and the read resumes with the next position (R164). That it shows its record
though its product has been discarded to EMPTY while the record was read is the model's choice (log 43). Where no rs is
installed any more the free value of log 36 stands in for it, and the next such position takes another.
A position is BLANK beyond the product's cells and where the product is EMPTY or CLEARING; where the product is OPEN and
its cell is held it shows the entry's record as it stands, or waits for the fill; it is read from the frame store where an
OPEN product's cell is not held, and where the product is FROZEN or RENDERING (R164). The fourth completes the beat,
position 0 at the lowest address; a locked beat that made no access starts the hold there. The view reads waiting on a
cell resume one after another. -/
def Obligations.ViewPositions : Prop :=
  (∀ (s : State) (which unit : Nat) (data : Word) (found : EccCondition) (rest : List Access) (v : ViewRead),
    s.Delivers isViewRead which (.viewRead v) unit data found rest →
    let t : State := s.delivered found rest
    let r := CellRecord.ofWord data
    let answered (rs : Nat) (u : State) : Prop :=
      let w := normalise r.sum r.hits rs
      let next := v.first + v.values.length + 1
      exec (.viewPositionDelivered which) s =
        .next (u.resumeView { v with values := v.values ++ [w], holdDue := false }).settle ∧
      (∀ x0 x1 x2, v.values = [x0, x1, x2] →
        exec (.viewPositionDelivered which) s = .next (u.respond v.beat (.data (w ++ x2 ++ x1 ++ x0))).settle) ∧
      (v.values.length < 3 → next < v.total →
        (s.product v.product).state = .frozen ∨ (s.product v.product).state = .rendering →
        exec (.viewPositionDelivered which) s = .next (u.ask
          ⟨.viewRead { v with values := v.values ++ [w], holdDue := false }, v.base + next * 8, none⟩).settle) ∧
      (v.values.length < 3 → (s.product v.product).state = .empty →
        let value (k : Nat) : BitVec 16 := (v.values ++ [w]).getD k 0x8000#16
        exec (.viewPositionDelivered which) s =
          .next (u.respond v.beat (.data (value 3 ++ value 2 ++ value 1 ++ value 0))).settle)
    (found = .uncorrectable → exec (.viewPositionDelivered which) s = .next (t.respond v.beat .error).settle) ∧
    (found ≠ .uncorrectable →
      (∀ q, s.productEntry v.product = some q → answered q.rs t) ∧
      (s.productEntry v.product = none →
        answered (Config.absentRs s.freeCount).toNat { t with freeCount := s.freeCount + 1 }))) ∧
  (∀ (s : State) (v : ViewRead),
    let cell := v.first + v.values.length
    let addr := v.base + cell * 8
    let state := (s.product v.product).state
    let shown (w : BitVec 16) : State := s.resumeView { v with values := v.values ++ [w] }
    let asked : State := s.ask ⟨.viewRead v, addr, none⟩
    (v.values.length < 4 →
      (v.total ≤ cell ∨ state = .empty ∨ state = .clearing → s.resumeView v = shown 0x8000#16) ∧
      (cell < v.total → state = .frozen ∨ state = .rendering → s.resumeView v = asked) ∧
      (cell < v.total → state = .opened →
        (s.entryOf addr = none → s.resumeView v = asked) ∧
        ∀ j e, s.entryOf addr = some j → s.entry j = some e →
          (e.state = .filling → s.resumeView v = s.onBus fun f => { f with views := f.views ++ [v] }) ∧
          ∀ q, e.state ≠ .filling → s.productEntry v.product = some q →
            s.resumeView v = shown (normalise e.record.sum e.record.hits q.rs))) ∧
    ∀ x0 x1 x2 x3, v.values = [x0, x1, x2, x3] →
      let done : State := s.respond v.beat (.data (x3 ++ x2 ++ x1 ++ x0))
      s.resumeView v = if v.holdDue then done.onPort fun p => { p with hold := true } else done) ∧
  (∀ (s : State) (addr : Nat),
    let here (v : ViewRead) : Bool := decide (v.base + (v.first + v.values.length) * 8 = addr)
    s.resumeViewsOn addr = (s.bus.views.filter here).foldl (fun t v => t.resumeView v)
      (s.onBus fun f => { f with views := f.views.filter fun v => !here v }))

/-- REQUEST_WORD: taken with no request in hand, the request becomes the request in hand and its record is read, both
beats asked at once (that they are is the model's choice, log 38); taken otherwise, or written in part, it is lost
(R174, R176, R177). A whole write waits for those of the earlier beats of its burst that take a control word (R174). -/
def Obligations.RequestWordTaken : Prop :=
  ∀ (s : State) (unit : Nat) (b : BusBeat) (ready : Bool) (after : StoredUnit) (found : Option EccCondition)
    (rest : List Access),
    s.Completes (fun j => isBusWrite j && isBusWriteTo (s.wordUnit .request) j) 0 (.busWrite b ready) unit after found
      rest → s.part ≠ .bypass → b.pair = false →
    let t : State := s.landed unit after found rest
    let lost : State :=
      (t.onBus fun f => { f with requestsLost := min (f.requestsLost + 1) 4294967295 }).raise .requestLost
    (b.enables.extractLsb' 0 4 = 0xF#4 →
      s.wordBlocked (fun j => isBusWrite j && isBusWriteTo (s.wordUnit .request) j) 0 = false →
      (s.bus.inHand = none → exec .requestWord s = .next (((t.onBus fun f => { f with
        inHand := some ⟨(b.data.extractLsb' 16 16).toNat, (b.data.extractLsb' 0 16).toNat, ⟨0, 0, 0, 0#32, 0#32⟩,
          .reading⟩ }).ask ⟨.recordRead 0, s.planBase + 0x4020, none⟩).ask
          ⟨.recordRead 1, s.planBase + 0x4028, none⟩).settle) ∧
      (s.bus.inHand ≠ none → exec .requestWord s = .next lost.settle)) ∧
    (b.enables.extractLsb' 0 4 ≠ 0xF#4 → b.enables.extractLsb' 0 4 ≠ 0#4 → exec .requestWord s = .next lost.settle)

/-- POST_WORD: with O outstanding and N that the post would leave, the post is accepted exactly when O ≤ N ≤ 8, and
else RING_FAULT is raised; written in part it raises RING_FAULT (R119, R174). A whole write waits for those of the
earlier beats of its burst that take a control word (R174). -/
def Obligations.PostWordTaken : Prop :=
  ∀ (s : State) (unit : Nat) (b : BusBeat) (ready : Bool) (after : StoredUnit) (found : Option EccCondition)
    (rest : List Access),
    s.Completes (fun j => isBusWrite j && isBusWriteTo (s.wordUnit .post) j) 0 (.busWrite b ready) unit after found
      rest → s.part ≠ .bypass → b.pair = false →
    let t : State := s.landed unit after found rest
    let post := (b.data.extractLsb' 0 8).toNat
    let o := (s.expo.accepted + 256 - s.expo.consume) % 256
    let n := (post + 256 - s.expo.consume) % 256
    (b.enables.extractLsb' 0 4 = 0xF#4 →
      s.wordBlocked (fun j => isBusWrite j && isBusWriteTo (s.wordUnit .post) j) 0 = false →
      (o ≤ n → n ≤ 8 → exec .postWord s = .next (t.onExpo fun e => { e with
        accepted := post
        ring := e.ring ++ (List.range (n - o)).map fun i =>
          ⟨(s.expo.accepted + i) % 256, .pending, none, false⟩ }).settle) ∧
      (n < o ∨ 8 < n → exec .postWord s = .next (t.raise .ringFault).settle)) ∧
    (b.enables.extractLsb' 0 4 ≠ 0xF#4 → b.enables.extractLsb' 0 4 ≠ 0#4 →
      exec .postWord s = .next (t.raise .ringFault).settle)

/-- ACKNOWLEDGE_WORD clears the causes it names from the latched set, TILE_ATTENTION only while every tile is
NORMAL; MASK_WORD replaces the mask; NOTICE follows at once and a status block is wanted. Written in part, neither does
anything (R174, R199, R200). A whole write waits for those of the earlier beats of its burst that take a control word
(R174). -/
def Obligations.NoticeWordsTaken : Prop :=
  ∀ (s : State) (unit : Nat) (b : BusBeat) (ready : Bool) (after : StoredUnit) (found : Option EccCondition)
    (rest : List Access), s.part ≠ .bypass → b.pair = false →
    let t : State := s.landed unit after found rest
    let named : BitVec 9 := b.data.extractLsb' 0 9
    let first (c : ControlWord) : Prop :=
      s.wordBlocked (fun j => isBusWrite j && isBusWriteTo (s.wordUnit c) j) 0 = false
    (s.Completes (fun j => isBusWrite j && isBusWriteTo (s.wordUnit .acknowledge) j) 0 (.busWrite b ready) unit after
        found rest →
      let cleared := if s.notice.tiles.any fun h => decide (h.state ≠ .normal) then named &&& 0x0FF#9 else named
      let latched := s.notice.latched &&& ~~~cleared
      (b.enables.extractLsb' 0 4 = 0xF#4 → first .acknowledge →
        exec .acknowledgeWord s = .next (t.onNotice fun x => { x with
          latched := latched, wanted := true, line := decide (latched &&& ~~~x.mask ≠ 0#9) }).settle) ∧
      (b.enables.extractLsb' 0 4 ≠ 0xF#4 → exec .acknowledgeWord s = .next t.settle)) ∧
    (s.Completes (fun j => isBusWrite j && isBusWriteTo (s.wordUnit .mask) j) 0 (.busWrite b ready) unit after
        found rest →
      (b.enables.extractLsb' 0 4 = 0xF#4 → first .mask → exec .maskWord s = .next (t.onNotice fun x => { x with
        mask := named, wanted := true, line := decide (x.latched &&& ~~~named ≠ 0#9) }).settle) ∧
      (b.enables.extractLsb' 0 4 ≠ 0xF#4 → exec .maskWord s = .next t.settle))

/-! ### Requests (R10, R132, R143 to R159, R176 to R179, R195) -/

/-- REQUEST_RECORD_READ_DELIVERED: both beats of the record are delivered. A damaged one refuses the request with
BAD_ARGUMENT and the first field of the damaged beat (R176); that both damaged name the lower beat's field is the
model's choice (log 37). Otherwise the record is latched and the request is dispatched, or answered UNKNOWN_KIND with
the kind as written (R178). -/
def Obligations.RecordDelivered : Prop :=
  ∀ (s : State) (q : Request) (u0 u1 : Nat) (w0 w1 : Word) (f0 f1 : EccCondition) (l1 l2 l3 : List Access),
    s.inReset = false → s.bus.inHand = some q → q.stage = .reading → s.asking isRecordRead = false →
    s.port.inFlight = l1 ++ ⟨.recordRead 0, u0, .read w0 f0⟩ :: l2 ++ ⟨.recordRead 1, u1, .read w1 f1⟩ :: l3 →
    (∀ x ∈ l1 ++ l2 ++ l3, isRecordRead x.job = false) → canEndAll isRecordRead [] s.port.inFlight = true →
    let t : State := ((s.onPort fun p => { p with inFlight := l1 ++ l2 ++ l3 }).countFound f0).countFound f1
    let r : RequestRecord := ⟨(w0.byte 0).toNat, (w0.byte 1).toNat, (w0.byte 2).toNat, w0.extractLsb' 32 32,
      w1.extractLsb' 0 32⟩
    (f0 = .uncorrectable → exec .requestRecordReadDelivered s =
      .next (t.reply .badArgument ⟨.request, 0, 1, 0, 0⟩)) ∧
    (f0 ≠ .uncorrectable → f1 = .uncorrectable → exec .requestRecordReadDelivered s =
      .next (t.reply .badArgument ⟨.request, 0, 9, 0, 0⟩)) ∧
    (f0 ≠ .uncorrectable → f1 ≠ .uncorrectable → 1 ≤ q.kind → q.kind ≤ 10 →
      exec .requestRecordReadDelivered s =
        .next (t.onBus fun f => { f with inHand := some { q with record := r, stage := .dispatched } })) ∧
    (f0 ≠ .uncorrectable → f1 ≠ .uncorrectable → q.kind = 0 ∨ 10 < q.kind →
      exec .requestRecordReadDelivered s =
        .next ((t.onBus fun f => { f with inHand := some { q with record := r, stage := .replying } }).onNotice
          fun x => { x with replyWaiting := some ⟨q.sequence, q.kind, .unknownKind, ⟨.none, 0, 0, 0, q.kind⟩⟩ }))

/-- COMMIT_PLAN: BUSY while a commit is pending; deferred with COMMIT_PENDING while an exposure is active; otherwise
its load begins with the first beat of the plan body (R10, R12). -/
def Obligations.CommitTaken : Prop :=
  ∀ (s : State) (r : RequestRecord), s.Dispatched 1 r →
    let marked : State :=
      s.onLoader fun l => { l with pendingMark := true, argument := r.argument, complement := r.complement }
    (s.loader.pendingMark = true → exec .commitPlan s = .next (s.reply .busy Detail.zero)) ∧
    (s.loader.pendingMark = false → s.expo.records ≠ [] →
      exec .commitPlan s = .next (marked.reply .commitPending Detail.zero)) ∧
    (s.loader.pendingMark = false → s.expo.records = [] → s.asking isPlanRead = false →
      exec .commitPlan s = .next (((marked.keepInHand 0).onLoader fun l =>
        { l with load := some ⟨1, [], none, false, true⟩ }).ask ⟨.planRead 0, s.planBase, none⟩))

/-- PLAN_BODY_BEAT_DELIVERED: the beat is kept as read and the lowest uncorrectable one remembered (R12; that it is the
lowest whatever the order of delivery is the model's inference, log 24). The last beat's checks give the outcome: a
refusal leaves the plan in force, DONE installs the body's plan (R14, R21, R22).
An installation sets the plan, the generation and the part state, and clears the late condition of a bank whose
base changes or which becomes absent; bindings and everything else of the part stay as they are (R6, R21). -/
def Obligations.PlanBeats : Prop :=
  (∀ (s : State) (which unit k : Nat) (data : Word) (found : EccCondition) (rest : List Access) (l : Load),
    s.Delivers isPlanRead which (.planRead k) unit data found rest → s.loader.load = some l →
    let t : State := s.delivered found rest
    let bad : Option Nat := if found = .uncorrectable then
      (match l.firstBad with
        | some j => some (min j k)
        | none => some k) else l.firstBad
    let l' : Load := { l with got := l.got ++ [(k, data)], firstBad := bad }
    let body : Body := bytesOf (gathered 1448 (l.got ++ [(k, data)]))
    let v := body.verdict s.loader l' s.planBase s.fitted fun i => (s.product i).state
    let record (u : State) : State := u.onLoader fun x =>
      { x with outcome := some v.1, detail := v.2, pendingMark := false, load := none }
    let answer (u : State) : State := if l.immediate then u.reply v.1 v.2 else u.raise .planDone
    (l.got.length + 1 ≠ 1448 → exec (.planBodyBeatDelivered which) s =
      .next (t.onLoader fun x => { x with load := some l' }).settle) ∧
    (l.got.length + 1 = 1448 → v.1 ≠ .done →
      exec (.planBodyBeatDelivered which) s = .next (answer (record t)).settle) ∧
    (l.got.length + 1 = 1448 → v.1 = .done → exec (.planBodyBeatDelivered which) s =
      .next (answer (record (t.install body.plan (body.header 4 4)))).settle)) ∧
  (∀ (s : State) (p : Plan) (g : Nat),
    let t : State := s.install p g
    let old (k : Nat) : Nat := match s.loader.plan with
      | some q => q.bankBase k
      | none => 0
    t = { s with
      loader := { s.loader with plan := some p, generation := g }
      part := .planned
      capture := { s.capture with banks := t.capture.banks } } ∧
    t.capture.banks.length = s.capture.banks.length ∧
    (∀ k < 2, (t.bank k).bound = (s.bank k).bound ∧
      (t.bank k).late = ((s.bank k).late && decide (p.bankBase k = old k ∧ p.bankBase k ≠ 0))) ∧
    ∀ k, 2 ≤ k → t.bank k = s.bank k)

/-- OPEN_PRODUCT: its checks in order, KEEP opening the product at once and CLEAR starting the clear job (R144, R150,
R151); NO_PLAN without a plan (R4; that its detail names the product is log 13). -/
def Obligations.OpenTaken : Prop :=
  ∀ (s : State) (r : RequestRecord), s.Dispatched 2 r →
    let p := r.product
    let detail (v : Nat) : Detail := ⟨.product, p, 0, if p < 4 then (s.product p).state.code else 0, v⟩
    (s.part ≠ .planned → exec .openProduct s = .next (s.reply .noPlan (detail 0))) ∧
    (s.part = .planned → 4 ≤ p ∨ s.productEntry p = none ∨ (r.argument ≠ 1#32 ∧ r.argument ≠ 2#32) →
      exec .openProduct s = .next (s.reply .badArgument (detail 0))) ∧
    (∀ q, s.part = .planned → p < 4 → s.productEntry p = some q → r.argument = 1#32 ∨ r.argument = 2#32 →
      ((s.product p).state ≠ .empty → exec .openProduct s = .next (s.reply .badState (detail 0))) ∧
      ((s.product p).state = .empty → s.engineRuns = true →
        exec .openProduct s = .next (s.reply .busy (detail 0))) ∧
      ((s.product p).state = .empty → s.engineRuns = false → r.argument = 1#32 → exec .openProduct s =
        .next ((s.setProduct p ⟨.opened, (s.product p).mark⟩).reply .done (detail 0))) ∧
      ((s.product p).state = .empty → s.engineRuns = false → r.argument = 2#32 → s.asking isEngineJob = false →
        0 < q.width * q.height →
        exec .openProduct s = .next ((((s.setProduct p ⟨.clearing, (s.product p).mark⟩).onEngine fun _ =>
          { kind := some .clear, product := p, total := q.width * q.height, done := 0, next := 0, base := q.base,
            rs := q.rs, outBase := q.outBase, outUnit := 0, values := [], halting := none }).ask
          ⟨.clearWrite, q.base, some ⟨0xFF#8, 0#64⟩⟩).reply .accepted (detail (q.width * q.height)))))

/-- THAW_PRODUCT and RENDER_PRODUCT: their checks in order, and what they do when every check passes (R148, R153,
R154). -/
def Obligations.ThawRenderTaken : Prop :=
  ∀ (s : State) (r : RequestRecord), s.part = .planned →
    let p := r.product
    let detail (v : Nat) : Detail := ⟨.product, p, 0, if p < 4 then (s.product p).state.code else 0, v⟩
    (s.Dispatched 4 r →
      (4 ≤ p → exec .thawProduct s = .next (s.reply .badArgument (detail 0))) ∧
      (p < 4 →
        ((s.product p).state = .rendering → exec .thawProduct s = .next (s.reply .busy (detail 0))) ∧
        ((s.product p).state ≠ .rendering → (s.product p).state ≠ .frozen →
          exec .thawProduct s = .next (s.reply .badState (detail 0))) ∧
        ((s.product p).state = .frozen →
          exec .thawProduct s = .next ((s.setProduct p ⟨.opened, .none⟩).reply .done (detail 0))))) ∧
    (s.Dispatched 5 r →
      (4 ≤ p ∨ s.productEntry p = none → exec .renderProduct s = .next (s.reply .badArgument (detail 0))) ∧
      ∀ q, p < 4 → s.productEntry p = some q →
        (q.outBase = 0 → exec .renderProduct s = .next (s.reply .badArgument (detail 0))) ∧
        (q.outBase ≠ 0 → (s.product p).state ≠ .frozen → (s.product p).state ≠ .rendering →
          exec .renderProduct s = .next (s.reply .badState (detail 0))) ∧
        (q.outBase ≠ 0 → (s.product p).state = .frozen ∨ (s.product p).state = .rendering → s.engineRuns = true →
          exec .renderProduct s = .next (s.reply .busy (detail 0))) ∧
        (q.outBase ≠ 0 → (s.product p).state = .frozen → s.engineRuns = false → s.asking isEngineJob = false →
          0 < q.width * q.height →
          exec .renderProduct s = .next ((((s.setProduct p ⟨.rendering, (s.product p).mark⟩).onEngine fun _ =>
            { kind := some .render, product := p, total := q.width * q.height, done := 0, next := 1, base := q.base,
              rs := q.rs, outBase := q.outBase, outUnit := 0, values := [], halting := none }).ask
            ⟨.renderRead 0, q.base, none⟩).reply .accepted (detail (q.width * q.height)))))

/-- FREEZE_PRODUCT and DISCARD_PRODUCT: their checks in order, the start of a freeze with its flush, and the discard
by the product's state (R145, R149, R158). Without a plan these and the other requests of a product are NO_PLAN (R4).
A flush's set holds the DIRTY entries, and the WRITING ones as waiting for the write granted; once every entry of the
set is settled the flush completes: a drain's makes the report due, a freeze's drops the product's entries, makes it
FROZEN and replies DONE, at once where no entry is DIRTY or WRITING (R103, R104, R105). Drain flushes that complete
together make their reports due in the order they started, which is the model's choice (log 42). A discard of an OPEN product
drops its entries but those with a granted write outstanding, and with none left the product is EMPTY and DONE is
replied (R106); a discard of a product whose job runs halts the job: the ask not granted is withdrawn, and with no
granted access left the engine is IDLE, the product EMPTY and DONE is replied (R158). -/
def Obligations.FreezeDiscardTaken : Prop :=
  (∀ (s : State) (r : RequestRecord),
    let p := r.product
    let code := (s.product p).state.code
    let detail : Detail := ⟨.product, p, 0, if p < 4 then code else 0, 0⟩
    let targeted := s.expo.records.any fun x => decide (x.product = p)
    let kept : State := s.keepInHand code
    (s.part ≠ .planned → s.jobEnding = false →
      (s.Dispatched 3 r → exec .freezeProduct s = .next (s.reply .noPlan detail).settle) ∧
      (s.Dispatched 4 r → exec .thawProduct s = .next (s.reply .noPlan detail)) ∧
      (s.Dispatched 5 r → exec .renderProduct s = .next (s.reply .noPlan detail)) ∧
      (s.Dispatched 6 r → exec .discardProduct s = .next (s.reply .noPlan detail).settle) ∧
      (s.Dispatched 7 r → exec .haltJob s = .next (s.reply .noPlan Detail.zero))) ∧
    (s.part = .planned → s.Dispatched 3 r →
      let freezing : State := kept.setProduct p ⟨.opened, .freezing⟩
      (4 ≤ p → exec .freezeProduct s = .next (s.reply .badArgument detail).settle) ∧
      (p < 4 → (s.product p).state ≠ .opened → exec .freezeProduct s = .next (s.reply .badState detail).settle) ∧
      (p < 4 → (s.product p).state = .opened → targeted = true →
        exec .freezeProduct s = .next (s.reply .busy detail).settle) ∧
      (p < 4 → (s.product p).state = .opened → targeted = false →
        exec .freezeProduct s = .next (freezing.beginFlush (.freeze p) fun x => decide (x = p)).settle ∧
        (s.quiet = true →
          (∀ i e, s.entry i = some e → e.product = p → e.state ≠ .dirty ∧ e.state ≠ .writing) →
          exec .freezeProduct s = .next (((freezing.dropEntries fun e => decide (e.product = p)).setProduct p
            ⟨.frozen, .none⟩).reply .done detail)))) ∧
    (s.part = .planned → s.Dispatched 6 r → s.engineRuns = false ∨ s.prod.engine.product ≠ p ∨ s.jobEnding = false →
      let e := s.prod.engine
      let discarding : State := kept.setProduct p ⟨.opened, .discarding⟩
      (4 ≤ p → exec .discardProduct s = .next (s.reply .badArgument detail).settle) ∧
      (p < 4 → targeted = true → exec .discardProduct s = .next (s.reply .busy detail).settle) ∧
      (p < 4 → targeted = false →
        ((s.product p).state = .empty → exec .discardProduct s = .next (s.reply .done detail).settle) ∧
        ((s.product p).state = .frozen → exec .discardProduct s =
          .next ((s.setProduct p ⟨.empty, .none⟩).reply .done detail).settle) ∧
        ((s.product p).state = .opened → exec .discardProduct s = .next discarding.settle ∧
          (s.quiet = true →
            (∀ i x, s.entry i = some x → x.product = p → x.state ≠ .writing ∧ x.writeOutstanding = false) →
            exec .discardProduct s = .next (((discarding.dropEntries fun x => decide (x.product = p)).setProduct p
              ⟨.empty, .none⟩).reply .done detail))) ∧
        (∀ k, (s.product p).state = .clearing ∨ (s.product p).state = .rendering → e.kind = some k →
          (s.flying isEngineJob = true → exec .discardProduct s =
            .next ((kept.withdraw isEngineJob).onEngine fun x =>
              { x with halting := some .discard, values := [] }).settle) ∧
          (s.flying isEngineJob = false → e.product = p → exec .discardProduct s =
            .next ((((kept.withdraw isEngineJob).setProduct p ⟨.empty, .none⟩).onEngine fun x =>
              { x with kind := none, halting := none, values := [] }).reply .done detail).settle))))) ∧
  (∀ (s : State) (asker : FlushFor) (pick : Nat → Bool),
    s.beginFlush asker pick = s.onMerge (fun m => { m with flushes := m.flushes ++ [⟨asker, s.flushSet pick⟩] }) ∧
    ∀ x, x ∈ s.flushSet pick ↔ x.settled = false ∧ ∃ e, s.entry x.entry = some e ∧ pick e.product = true ∧
      ((e.state = .dirty ∧ x.granted = false) ∨ (e.state = .writing ∧ x.granted = true))) ∧
  (∀ s : State,
    let waits (f : Flush) : Prop := ∃ x ∈ f.members, x.settled = false
    ((∀ f ∈ s.merge.flushes, waits f) → s.flushAdvance = s) ∧
    (∀ l1 f l2, s.merge.flushes = l1 ++ f :: l2 → ¬waits f → (∀ g ∈ l1 ++ l2, waits g) →
      let t : State := s.onMerge fun m => { m with flushes := l1 ++ l2 }
      (∀ bank r, f.asker = .drain bank → s.recordOf bank = some r →
        s.flushAdvance = t.onExpo fun x => { x with due := x.due ++ [⟨r.number, .ended bank⟩] }) ∧
      (∀ p, f.asker = .freeze p → s.flushAdvance =
        ((t.dropEntries fun e => decide (e.product = p)).setProduct p ⟨.frozen, .none⟩).reply .done
          ⟨.product, p, 0, s.keptCode, 0⟩)) ∧
    ((∀ f ∈ s.merge.flushes, ¬waits f → ∃ bank, f.asker = .drain bank) →
      let whole (f : Flush) : Bool := f.members.all fun x => x.settled
      s.flushAdvance = (s.onMerge fun m => { m with flushes := m.flushes.filter fun f => !whole f }).onExpo fun x =>
        { x with due := x.due ++ (s.merge.flushes.filter whole).filterMap fun f => match f.asker with
            | .drain bank => (s.recordOf bank).map fun r => ⟨r.number, .ended bank⟩
            | _ => none })) ∧
  (∀ (s : State) (p : Nat), (s.product p).mark = .discarding →
    let stays (e : Entry) : Prop := e.state = .writing ∨ e.writeOutstanding = true
    let t : State := s.dropEntries fun e =>
      decide (e.product = p) && decide (e.state ≠ .writing) && !e.writeOutstanding
    ((∃ i e, s.entry i = some e ∧ e.product = p ∧ stays e) → s.discardStep p = t) ∧
    ((∀ i e, s.entry i = some e → e.product = p → ¬stays e) →
      s.discardStep p = (t.setProduct p ⟨.empty, .none⟩).reply .done ⟨.product, p, 0, s.keptCode, 0⟩))

/-- HALT_JOB: BAD_STATE with the engine IDLE; otherwise the ask not granted is withdrawn, and with no granted access
left the halt is complete: the engine is IDLE, the product EMPTY after a clear and FROZEN after a render, and the reply
gives the cells done (R158, R159). -/
def Obligations.HaltTaken : Prop :=
  ∀ (s : State) (r : RequestRecord), s.Dispatched 7 r → s.part = .planned →
    let e := s.prod.engine
    (e.kind = none → exec .haltJob s = .next (s.reply .badState Detail.zero)) ∧
    (∀ k, e.kind = some k → s.jobEnding = false →
      (s.flying isEngineJob = true → exec .haltJob s = .next (((s.keepInHand 0).withdraw isEngineJob).onEngine
        fun x => { x with halting := some .request, values := [] })) ∧
      (s.flying isEngineJob = false →
        let after : ProductState := if k = .clear then .empty else .frozen
        exec .haltJob s = .next (((((s.keepInHand 0).withdraw isEngineJob).setProduct e.product ⟨after, .none⟩).onEngine
          fun x => { x with kind := none, halting := none, values := [] }).reply .done
            ⟨.product, e.product, 0, after.code, e.done⟩)))

/-- ABORT_EXPOSURE with an exposure of the tag: one that has ended is BAD_STATE; one that runs is aborted, one that has
timed out keeping its end status: its bank is unbound with its late condition set, its held beats released, its
slots freed without being applied and, all of them freed, handed on (R46; that order is the model's choice, log 44), and
it drains once no slot of it is left (R26, R42, R132, R133, R136).
The abort search: with no exposure of the tag it begins to read the oldest PENDING descriptor without the abort mark,
or ends NOT_FOUND when there is none; a read that shows the marker and the tag marks the descriptor and ends it DONE, any
other goes on (R132, R134).
Unbinding a bank gives its held beats ready at once, asks their stores and counts each as a beat at the bank (R42).
Freeing an exposure's rows makes FREE every slot of its bank that is COLLECTING, CLOSED or QUEUED, takes them out of
the ready queue and abandons their fetches; an APPLYING one stays (R46, R58). An ended exposure with every slot FREE
enters DRAINING and its flush starts (R136). -/
def Obligations.AbortTaken : Prop :=
  (∀ (s : State) (r : RequestRecord) (x : ExposureRecord), s.Dispatched 8 r →
    (s.part ≠ .planned → exec .abortExposure s = .next (s.reply .noPlan Detail.zero).settle) ∧
    (s.part = .planned → s.expo.records.find? (fun y => decide (y.tag = r.tag)) = some x →
      let detail : Detail := ⟨.none, x.number, 0, 0, 0⟩
      let ended : State := s.onRecord x.bank fun y => { y with endStatus := y.endStatus.or (some .aborted) }
      (x.state = .draining ∨ x.endStatus = some .complete ∨ x.endStatus = some .aborted →
        exec .abortExposure s = .next (s.reply .badState detail).settle) ∧
      (x.state = .active → x.endStatus = none ∨ x.endStatus = some .timedOut → exec .abortExposure s =
        .next (((((ended.unbind x.bank true).freeUnapplied x.bank).handOn).drainCheck x.bank).reply .done
          detail).settle) ∧
      (x.state = .active → x.endStatus = none → s.recordOf x.bank = some x → (s.bank x.bank).bound = true →
        s.capture.held = [] → (∀ v ∈ s.capture.slots, v.bank = x.bank → v.state = .free) →
        exec .abortExposure s = .next ((((s.onRecord x.bank fun y =>
          { y with endStatus := y.endStatus.or (some .aborted), state := .draining }).setBank x.bank ⟨false, true⟩).beginFlush
            (.drain x.bank) fun p => decide (p = x.product)).reply .done detail).settle))) ∧
  (∀ (s : State),
    (∀ r, s.Dispatched 8 r → s.part = .planned → (∀ x ∈ s.expo.records, x.tag ≠ r.tag) →
      let wanted (c : RingEntry) : Bool := decide (c.state = .pending) && c.mark.isNone
      (s.expo.ring.any wanted = false → s.expo.tasks = [] → exec .abortExposure s =
        .next (((s.keepInHand 0).onExpo fun e => { e with search := none }).reply .notFound Detail.zero).settle) ∧
      (∀ c, s.expo.ring.find? wanted = some c → s.expo.tasks = [] → s.asking isExpoJob = false →
        exec .abortExposure s = .next (((s.keepInHand 0).onExpo fun e =>
          { e with tasks := [.search], search := some ⟨[], c.number, true⟩ }).ask
            ⟨.searchRead c.number, s.planBase + 0x8000 + c.number % 8 * 256, none⟩).settle)) ∧
    (∀ (unit number : Nat) (data : Word) (found : EccCondition) (rest : List Access) (q : Search) (h : Request),
      s.Delivers isSearchRead 0 (.searchRead number) unit data found rest → s.expo.search = some q →
      s.bus.inHand = some h →
      let t : State := s.delivered found rest
      let shows := found ≠ .uncorrectable ∧ data.extractLsb' 0 32 = 0x364E5845#32 ∧
        (data.extractLsb' 32 8).toNat = h.record.tag ∧
        ∃ c ∈ s.expo.ring, c.number = number ∧ c.state = .pending ∧ c.mark = none
      (shows → exec .abortSearchReadDelivered s =
        .next (((((t.onExpo fun e => { e with search := none }).endTask .search).onRing number fun c =>
          { c with mark := some h.record.tag }).reply .done ⟨.none, number, 0, 0, 0⟩).expoAsk)) ∧
      (¬shows → exec .abortSearchReadDelivered s = .next (t.searchNext (q.examined ++ [number])))) ∧
    (∀ (bank : Nat) (late : Bool),
      let out := s.capture.held.filter fun h => decide (h.bank = bank)
      let count (on : Bool) (n : Nat) : Nat := if on then out.foldl (fun k _ => min (k + 1) 4294967295) n else n
      ((s.bank bank).bound = false → s.unbind bank late = s) ∧
      ((s.bank bank).bound = true → s.unbind bank late = { s with
        bus := { s.bus with responses := s.bus.responses ++ out.map fun h => ⟨h.beat.master, h.beat.unit, .done⟩ }
        port := { s.port with asks := s.port.asks ++ out.map fun h =>
          ⟨.busWrite h.beat true, h.beat.unit, some ⟨h.beat.enables, h.beat.data⟩⟩ }
        capture := { s.capture with
          banks := s.capture.banks.set bank ⟨false, late || (s.bank bank).late⟩
          held := s.capture.held.filter fun h => decide (h.bank ≠ bank)
          late := count late s.capture.late
          unclaimed := count (!late) s.capture.unclaimed } })) ∧
    (∀ bank : Nat,
      let freed (i : Nat) : Bool := decide ((s.slot i).bank = bank) && (decide ((s.slot i).state = .collecting) ||
        decide ((s.slot i).state = .closed) || decide ((s.slot i).state = .queued))
      (∀ i, (s.freeUnapplied bank).slot i = if freed i then Slot.blank else s.slot i) ∧
      (s.freeUnapplied bank).capture.ready = s.capture.ready.filter (fun i => !freed i) ∧
      (∀ f ∈ (s.freeUnapplied bank).fetch, freed f.slot = false) ∧
      (∀ k ∈ (s.freeUnapplied bank).port.asks, ∀ i f n, k.job = .calRead i f n → freed i = false) ∧
      (∀ k ∈ (s.freeUnapplied bank).port.inFlight, ∀ i f n, k.job = .calRead i f n → freed i = false)) ∧
    (∀ (bank : Nat) (r : ExposureRecord), s.recordOf bank = some r →
      (r.state = .active → r.endStatus ≠ none → (∀ v ∈ s.capture.slots, v.bank = bank → v.state = .free) →
        s.drainCheck bank = (s.onRecord bank fun y => { y with state := .draining }).beginFlush (.drain bank)
          fun p => decide (p = r.product)) ∧
      (r.state = .draining ∨ r.endStatus = none ∨ (∃ v ∈ s.capture.slots, v.bank = bank ∧ v.state ≠ .free) →
        s.drainCheck bank = s)))

/-- RELEASE_TILE: its checks in order; a tile that is not NORMAL becomes NORMAL with its lifetime counters kept, and the
detail gives the tile and the state it held (R195; the details of the refusals are log 13). -/
def Obligations.ReleaseTaken : Prop :=
  ∀ (s : State) (r : RequestRecord), s.Dispatched 9 r →
    (s.part ≠ .planned → exec .releaseTile s = .next (s.reply .noPlan Detail.zero)) ∧
    (s.part = .planned → 64 ≤ r.tile → s.notice.tiles.length = 64 →
      exec .releaseTile s = .next (s.reply .badArgument ⟨.tile, r.tile, 0, 0, 0⟩)) ∧
    (∀ l1 h l2, s.part = .planned → r.tile < 64 → s.notice.tiles = l1 ++ h :: l2 → l1.length = r.tile →
      (h.state = .normal → exec .releaseTile s = .next (s.reply .badState ⟨.tile, r.tile, 0, 0, 0⟩)) ∧
      (h.state ≠ .normal → exec .releaseTile s = .next ((s.onNotice fun n =>
        { n with tiles := l1 ++ { h with state := .normal } :: l2 }).reply .done
          ⟨.tile, r.tile, 0, h.state.code, 0⟩)))

/-- RESTART clears the latched causes and NOTICE, raising TILE_ATTENTION again while a tile is not NORMAL, and keeps the
mask, the plan in force, the part state, the straps, the frame store and the fairness count (R24, R178, R200, R202).
Its request stays in hand; a descriptor read in progress is to be discarded (R139); every exposure that is not
DRAINING ends as an abort ends it: every bank is unbound with its held beats released late, then their rows are
freed, then they drain (R47, R139; the order of the records is the model's choice, log 40); and a running job that
is not ending is halted: the ask not granted is withdrawn, and with no granted access left the engine is IDLE, its
product EMPTY after a clear and FROZEN after a render (R158, R167). With the whole part idle it is complete at once:
the bias states are unseeded, and DONE is replied (R62, R178).
The merge buffer's part: once the pipeline holds no row, the bias states are unseeded and a flush of all four
products starts; with no flush left in progress every held entry is dropped, which leaves no entry, a dirty count of
0 and none of them in the use order; and with the other parts complete too, no load, no slot held, no fetch nor
discarded read, no row, no exposure and no job, DONE is replied (R62, R108, R178). -/
def Obligations.RestartTaken : Prop :=
  (∀ (s : State) (r : RequestRecord), s.Dispatched 10 r →
    (∃ t, exec .restart s = .next t ∧ t.notice.latched = 0#9 ∧ t.notice.line = false ∧
      t.notice.mask = s.notice.mask ∧ t.loader.plan = s.loader.plan ∧ t.part = s.part ∧ t.straps = s.straps ∧
      t.mem = s.mem ∧ t.port.fairness = s.port.fairness) ∧
    (let cleared : State := (s.keepInHand 0).onNotice fun n => { n with
        latched := 0#9, pending := 0#9, wanted := true, line := false
        status := n.status.map fun w => { w with publishes := false } }
      let noticed : State := if s.notice.tiles.any fun h => decide (h.state ≠ .normal) then cleared.raise .tileAttention
        else cleared
      let begun : State := (noticed.onBus fun f => { f with restart := some ⟨false, false⟩ }).onExpo fun e =>
        { e with activation := e.activation.map fun a => { a with discard := true } }
      let banks := (s.expo.records.filter fun x => decide (x.state = .active)).map fun x => x.bank
      let unbound : State := banks.foldl (fun t b => (t.onRecord b fun y =>
        { y with endStatus := y.endStatus.or (some .aborted) }).unbind b true) begun
      let freed : State := banks.foldl (fun t b => t.freeUnapplied b) unbound
      let drained : State := banks.foldl (fun t b => t.drainCheck b) freed
      exec .restart s = .next (if s.prod.engine.kind ≠ none ∧ s.prod.engine.halting = none ∧ s.jobEnding = false then
        drained.halt .restart else drained).settle) ∧
    (s.quiet = true → s.expo.records = [] → s.prod.engine.kind = none → s.pipe.applying = none →
      s.merge.flushes = [] → (∀ e ∈ s.merge.entries, e = none) → (∀ v ∈ s.capture.slots, v.state = .free) →
      s.fetch = [] → s.flying isCalDiscard = false → s.loader.load = none → s.notice.status = none →
      (∀ h ∈ s.notice.tiles, h.state = .normal) →
      exec .restart s = .next ((((s.onNotice fun n =>
        { n with latched := 0#9, pending := 0#9, wanted := true, line := false }).onExpo fun e =>
          { e with activation := e.activation.map fun a => { a with discard := true } }).onPipe fun p =>
            { p with bias := List.replicate 512 ⟨false, 0⟩ }).reply .done Detail.zero))) ∧
  (∀ (s : State) (k : JobKind), s.prod.engine.kind = some k →
    let t : State := s.withdraw isEngineJob
    (s.flying isEngineJob = true →
      s.halt .restart = t.onEngine fun x => { x with halting := some .restart, values := [] }) ∧
    (s.flying isEngineJob = false →
      s.halt .restart = (t.setProduct s.prod.engine.product ⟨if k = .clear then .empty else .frozen, .none⟩).onEngine
        fun x => { x with kind := none, halting := none, values := [] })) ∧
  (∀ (s : State) (r : RestartProgress), s.bus.restart = some r →
    let begun : State := if s.pipe.applying = none ∧ r.flushStarted = false then
      ((s.onBus fun f => { f with restart := some { r with flushStarted := true } }).onPipe fun p =>
        { p with bias := List.replicate 512 ⟨false, 0⟩ }).beginFlush .restart fun _ => true
      else s
    let u : State := begun.flushAdvance
    let dropped : State := (u.dropEntries fun _ => true).onBus fun f => { f with restart := some ⟨true, true⟩ }
    let idle (t : State) : Prop := t.loader.load = none ∧ (∀ v ∈ t.capture.slots, v.state = .free) ∧ t.fetch = [] ∧
      t.flying isCalDiscard = false ∧ t.pipe.applying = none ∧ t.expo.records = [] ∧ t.prod.engine.kind = none
    let done (t : State) : State := (t.onBus fun f => { f with restart := none }).reply .done Detail.zero
    let started := r.flushStarted = true ∨ s.pipe.applying = none
    (¬started ∨ (r.mergeDone = false ∧ u.merge.flushes ≠ []) → s.restartAdvance = u) ∧
    (started → r.mergeDone = false → u.merge.flushes = [] →
      (∀ e ∈ dropped.merge.entries, e = none) ∧ dropped.dirtyCount = 0 ∧
      ((∀ j ∈ u.merge.order, u.entry j ≠ none) → dropped.merge.order = []) ∧
      (idle dropped → s.restartAdvance = done dropped) ∧ (¬idle dropped → s.restartAdvance = dropped)) ∧
    (started → r.mergeDone = true →
      (idle u → s.restartAdvance = done u) ∧ (¬idle u → s.restartAdvance = u)))

/-! ### The frame store port (R182 to R190) -/

/-- The ranks of the asks: a write-back alone moves, to rank 1 while the dirty count is 56 or more (chapter 10, R101).
The arbiter's choice: the oldest ask of the highest rank that waits, with rank 3 ahead of rank 2 at a fairness
count of 8, and rank 2 alone while the lock hold stands (R183, R184, R185). -/
def Obligations.ArbiterChoice : Prop :=
  ∀ (s : State),
    ((∀ i, s.rank (.writeBack i) =
        if 56 ≤ s.merge.entries.countP (fun e => e.any fun x => decide (x.state = .dirty)) then 1 else 3) ∧
      (∀ b, s.rank (.busRead b) = 2) ∧ (∀ b ready, s.rank (.busWrite b ready) = 2) ∧ (∀ v, s.rank (.viewRead v) = 2) ∧
      (∀ k, s.rank (.recordRead k) = 2) ∧ (∀ i f k, s.rank (.calRead i f k) = 3) ∧ s.rank .fill = 3 ∧
      (∀ k, s.rank (.descriptorRead k) = 4) ∧ (∀ k, s.rank (.searchRead k) = 4) ∧ (∀ k, s.rank (.reportUnit k) = 4) ∧
      (∀ k, s.rank (.statusUnit k) = 4) ∧ (∀ k, s.rank (.replyUnit k) = 4) ∧ (∀ k, s.rank (.planRead k) = 5) ∧
      s.rank .clearWrite = 6 ∧ (∀ c, s.rank (.renderRead c) = 6) ∧ ∀ n, s.rank (.renderWrite n) = 6) ∧
    (∀ a, s.nextAsk = some a →
      (∃ l1 l2, s.port.asks = l1 ++ a :: l2 ∧ ∀ x ∈ l1, s.rank x.job ≠ s.rank a.job) ∧
      (s.port.hold = true → s.rank a.job = 2) ∧
      (s.port.hold = false →
        (∀ x ∈ s.port.asks, s.rank a.job ≤ s.rank x.job) ∨
        (s.rank a.job = 3 ∧ s.port.fairness = 8 ∧ ∀ x ∈ s.port.asks, 2 ≤ s.rank x.job)) ∧
      (s.port.hold = false → s.port.fairness = 8 → (∃ x ∈ s.port.asks, s.rank x.job = 3) →
        (∀ x ∈ s.port.asks, s.rank x.job ≠ 1) → s.rank a.job = 3) ∧
      (s.port.hold = false → s.port.fairness ≠ 8 → ∀ x ∈ s.port.asks, s.rank a.job ≤ s.rank x.job)) ∧
    (s.nextAsk = none ↔ if s.port.hold then ∀ x ∈ s.port.asks, s.rank x.job ≠ 2 else s.port.asks = [])

/-- The fairness count after a grant, by the rank granted and whether an ask still waits at rank 3 (R184). An ask of a
rank below 3 is granted only when none waits at rank 3, so that such a grant clears the count (R183, R184). -/
def Obligations.FairnessMoves : Prop :=
  ∀ (s t : State) (a : Ask) (x : Option Upset),
    s.inReset = false → s.nextAsk = some a → exec (.portGrant x) s = .next t →
    let waits := ∃ y ∈ s.port.asks.erase a, s.rank y.job = 3
    (s.rank a.job = 2 → waits → t.port.fairness = min (s.port.fairness + 1) 8) ∧
    (s.rank a.job = 3 → t.port.fairness = 0) ∧
    (s.rank a.job = 1 → t.port.fairness = s.port.fairness) ∧
    (s.rank a.job ≠ 1 → s.rank a.job ≠ 3 → ¬waits → t.port.fairness = 0) ∧
    (4 ≤ s.rank a.job → ¬waits ∧ t.port.fairness = 0)

/-- PORT_GRANT: the ask chosen leaves its list, its access is in flight with what it carries, and its requester acts by
what it asked for (R28, R101, R169, R182, R185, R186). An upset changes the unit before the access (log 4).
What an access carries: a read the unit as the writes granted before leave it, an entry's write its record as it
stands at the grant, any other write what R187 makes of the unit (R101, R186, R187; UnitOrder says how). -/
def Obligations.GrantMade : Prop :=
  (∀ (s : State) (a : Ask), s.inReset = false → s.nextAsk = some a →
    let g : State := s.onPort fun p => { p with
      asks := p.asks.erase a
      inFlight := p.inFlight ++ [s.accessOf a]
      fairness := fairnessAfter p.fairness (s.rank a.job)
        ((s.port.asks.erase a).any fun y => decide (s.rank y.job = 3)) }
    (a.job = .fill ∨ a.job = .calDiscard ∨ (∃ k, a.job = .recordRead k) →
      exec (.portGrant none) s = .next g.settle) ∧
    (∀ b, a.job = .busRead b → exec (.portGrant none) s =
      .next (if b.locked then g.onPort fun p => { p with hold := true } else g).settle) ∧
    (∀ b ready, a.job = .busWrite b ready → exec (.portGrant none) s =
      .next (if ready then g else g.respond b .done).settle) ∧
    (∀ v, a.job = .viewRead v → exec (.portGrant none) s =
      .next (if v.holdDue then g.onPort fun p => { p with hold := true } else g).settle) ∧
    (∀ i e, a.job = .writeBack i → s.entry i = some e → exec (.portGrant none) s =
      .next ((g.setEntry i (some { e with state := .writing, writeAsked := false })).onMerge fun m => { m with
        flushes := m.flushes.map fun f => { f with
          members := f.members.map fun x => if x.entry = i then { x with granted := true } else x } }).settle) ∧
    ((∃ i f k, a.job = .calRead i f k) → exec (.portGrant none) s = .next g.fetchAsk.settle) ∧
    ((∃ k, a.job = .planRead k) → exec (.portGrant none) s = .next g.planAsk.settle) ∧
    ((∃ k, a.job = .statusUnit k ∨ a.job = .replyUnit k) → exec (.portGrant none) s = .next g.noticeAsk.settle) ∧
    ((∃ k, a.job = .descriptorRead k ∨ a.job = .searchRead k) → exec (.portGrant none) s = .next g.expoAsk.settle) ∧
    (∀ k w, a.job = .reportUnit k → s.expo.report = some w → exec (.portGrant none) s =
      .next (if k + 1 = w.units.length then (g.finishDescriptor w).expoAsk else g.expoAsk).settle) ∧
    (a.job = .clearWrite → exec (.portGrant none) s =
      .next (g.onEngine fun e => { e with done := e.done + 1, next := e.next + 1 }).engineAsk.settle) ∧
    ((∃ c, a.job = .renderRead c) → exec (.portGrant none) s = .next g.engineAsk.settle) ∧
    (∀ n, a.job = .renderWrite n → exec (.portGrant none) s =
      .next (g.onEngine fun e =>
        { e with done := e.done + n, outUnit := e.outUnit + 1, values := [] }).engineAsk.settle) ∧
    (∀ x, exec (.portGrant (some x)) s = exec (.portGrant none) (s.applyUpset a.unit (some x)))) ∧
  (∀ (s : State) (a : Ask),
    let now := s.unitNow a.unit
    (a.write = none → s.accessOf a = ⟨a.job, a.unit, .read now.data now.condition⟩) ∧
    (∀ w i e, a.write = some w → a.job = .writeBack i → s.entry i = some e →
      s.accessOf a = ⟨a.job, a.unit, .write ⟨e.record.word, .correct⟩ none⟩) ∧
    (∀ w, a.write = some w → (∀ i, a.job ≠ .writeBack i) →
      s.accessOf a = ⟨a.job, a.unit, .write (writeResult now w).1 (writeResult now w).2⟩))

/-- The grant of a report's last unit finishes the descriptor: it leaves the ring with the FINISHED ones at the head,
the report sequence is taken and EXPOSURE_DONE raised (R137, R138); a rejection's report does no more (R125). That of an
ended exposure's report then evaluates the health of its included tiles: a tile's lifetime counters grow by the
exposure's, and where a count reaches a threshold that is on it becomes QUARANTINED if its tile says so or it is so
already, and WARNED otherwise; TILE_ATTENTION is raised when some tile worsened (R193). The record is freed, which
ends a wait for a bank, and a deferred commit begins its load when no exposure is left (R11, R138). That all of this
is one step is the model's choice (log 39).
REPORT_WRITE_START: with no report being written, the one that became due first is begun: the next sequence, its
slot of the ring, and its first unit asked (R137). -/
def Obligations.ReportsWritten : Prop :=
  (∀ (s : State) (a : Ask) (k number tag product bank : Nat) (why : Rejection) (x : List (Nat × Exclusion))
    (w : ReportWrite) (c : RingEntry) (l : List RingEntry),
    s.inReset = false → s.nextAsk = some a → a.job = .reportUnit k → s.expo.report = some w →
    k + 1 = w.units.length → w.due = ⟨number, .rejected tag product bank why x⟩ →
    s.expo.ring = c :: l → c.number = number → (∀ y ∈ l, y.number ≠ number ∧ y.state = .pending) →
    s.part ≠ .bypass → s.quiet = true →
    ∃ t, exec (.portGrant none) s = .next t ∧ t.expo.ring = l ∧ t.expo.consume = (s.expo.consume + 1) % 256 ∧
      t.expo.reportSeq = w.sequence ∧ t.expo.report = none ∧ t.notice.pending = s.notice.pending ||| 0x001#9 ∧
      t.notice.wanted = true ∧ t.notice.tiles = s.notice.tiles ∧ t.expo.records = s.expo.records) ∧
  (∀ (s : State) (w : ReportWrite) (number bank : Nat) (r : ExposureRecord) (p : Plan) (l1 l2 : List RingEntry),
    w.due = ⟨number, .ended bank⟩ → s.recordOf bank = some r → s.loader.plan = some p → s.part ≠ .bypass →
    (r.included.map fun c => c.tile).Nodup →
    s.expo.ring.map (fun c => if c.number = number then { c with state := .finished, due := false } else c) = l1 ++ l2 →
    (∀ c ∈ l1, c.state = .finished) → (∀ c l, l2 = c :: l → c.state ≠ .finished) →
    let t : State := s.finishDescriptor w
    let worse := ∃ (i : Nat) (h h' : Health), s.notice.tiles[i]? = some h ∧ t.notice.tiles[i]? = some h' ∧ h.state ≠ h'.state
    let others := s.expo.records.filter fun y => decide (y.bank ≠ bank)
    t.expo = { s.expo with
      ring := l2, consume := (s.expo.consume + l1.length) % 256, reportSeq := w.sequence, report := none
      tasks := s.expo.tasks.filter fun u => decide (u ≠ .report)
      records := others, waitBank := false } ∧
    t.notice.tiles.length = s.notice.tiles.length ∧
    (∀ i, (∀ c ∈ r.included, c.tile ≠ i) → t.notice.tiles[i]? = s.notice.tiles[i]?) ∧
    (∀ c ∈ r.included, ∀ h, s.notice.tiles[c.tile]? = some h →
      let hit := (p.satThreshold ≠ 0 ∧ p.satThreshold ≤ c.saturated) ∨
        (p.rejThreshold ≠ 0 ∧ p.rejThreshold ≤ c.rejected) ∨ (p.faultThreshold ≠ 0 ∧ p.faultThreshold ≤ c.faults)
      let quarantines := h.state = .quarantined ∨ ∃ e, p.tiles[c.tile]? = some e ∧ e.quarantine = true
      ∃ h', t.notice.tiles[c.tile]? = some h' ∧
        h'.saturated = min (h.saturated + c.saturated) 4294967295 ∧
        h'.rejected = min (h.rejected + c.rejected) 4294967295 ∧
        h'.faults = min (h.faults + c.faults) 4294967295 ∧
        (¬hit → h'.state = h.state) ∧ (hit → quarantines → h'.state = .quarantined) ∧
        (hit → ¬quarantines → h'.state = .warned)) ∧
    t.notice.wanted = true ∧
    (worse → t.notice.pending = s.notice.pending ||| 0x101#9) ∧
    (¬worse → t.notice.pending = s.notice.pending ||| 0x001#9) ∧
    (s.loader.pendingMark = true → s.loader.load = none → others = [] → s.restartInHand = false →
      s.asking isPlanRead = false →
      t.loader = { s.loader with load := some ⟨1, [], none, false, false⟩ } ∧
      t.port = { s.port with asks := s.port.asks ++ [⟨.planRead 0, s.planBase, none⟩] }) ∧
    (s.loader.pendingMark = false ∨ s.loader.load ≠ none ∨ others ≠ [] ∨ s.restartInHand = true →
      t.loader = s.loader ∧ t.port = s.port)) ∧
  (∀ (s : State) (d : ReportDue) (rest : List ReportDue),
    s.inReset = false → s.expo.report = none → s.expo.due = d :: rest → s.expo.tasks = [] →
    s.asking isExpoJob = false →
    let n := (s.expo.reportSeq + 1) % 2 ^ 32
    let units := unitsOf 170 (s.reportOf n d.source)
    exec .reportWriteStart s = .next ((s.onExpo fun e => { e with
      due := rest, report := some ⟨d, n, units, 1⟩, tasks := [.report] }).ask
        ⟨.reportUnit 0, s.planBase + 0x10000 + (n + 2 ^ 32 - 1) % 8 * 4096,
          some ⟨0xFF#8, units.getD 0 0#64⟩⟩))

/-- Accesses to one unit are carried out in the order of their grants: an access granted now finds the last granted
write of its unit, or what the frame store holds when no write of it is in flight (R186).
What a write makes of a unit: a whole write replaces it and makes it correct without reading it; a partial write
merges the enabled bytes, removes a single-bit error, keeps an uncorrectable unit marked so, and carries the condition
its read found (R187). -/
def Obligations.UnitOrder : Prop :=
  (∀ (s : State) (u : Nat),
    ((∀ x ∈ s.port.inFlight, x.isWrite = true → x.unit ≠ u) → s.unitNow u = s.mem.readUnit u) ∧
    (∀ l1 l2 job after found, s.port.inFlight = l1 ++ ⟨job, u, .write after found⟩ :: l2 →
      (∀ x ∈ l2, x.isWrite = true → x.unit ≠ u) → s.unitNow u = after)) ∧
  (∀ (old : StoredUnit) (enables : BitVec 8) (data : Word),
    (enables = 0xFF#8 → writeResult old ⟨enables, data⟩ = (⟨data, .correct⟩, none)) ∧
    (enables ≠ 0xFF#8 → enables ≠ 0#8 →
      (∀ j < 8, (writeResult old ⟨enables, data⟩).1.data.byte j =
        if enables.getLsbD j then data.byte j else old.data.byte j) ∧
      (writeResult old ⟨enables, data⟩).1.condition =
        (if old.condition = .uncorrectable then .uncorrectable else .correct) ∧
      (writeResult old ⟨enables, data⟩).2 = some old.condition))

/-! ### Merge buffer (R97 to R103) -/

/-- WRITE_BACK_CHOICE chooses nothing while a write is asked (R100, R113). With none asked, a locked read held on an
eligible entry forces that entry's write ahead of the engine's choice, the read held longest first (R113). With none
forced: the least recently used eligible entry when an allocation waits; else the least recently used eligible one
of the sets of the flushes with an entry not yet settled, when there is such a flush; else the least recently used
eligible entry when the dirty count is 32 or more; and none otherwise (R100). The chosen entry's write is asked
(R100). That the members of such a set already settled are drawn on too, and that the engine waits when no member is
eligible though the dirty count is 32 or more, is the model's inference (log 23).
WRITE_BACK_COMPLETE: the frame store holds the captured record; a WRITING entry becomes CLEAN, a DIRTY one loses the
write-outstanding mark; and the entry is settled in the flushes that waited for this write (R102, R103). -/
def Obligations.WriteBacks : Prop :=
  (∀ (s : State), s.inReset = false → s.asking isWriteBack = false → s.forcedWrite = none →
    (∀ l1 i l2 e, s.merge.order = l1 ++ i :: l2 → s.entry i = some e → e.state = .dirty →
      e.writeOutstanding = false →
      let t : State := (s.setEntry i (some { e with writeAsked := true })).ask
        ⟨.writeBack i, e.addr, some ⟨0xFF#8, e.record.word⟩⟩
      (s.allocationWaits = true ∨ (32 ≤ s.dirtyCount ∧ s.flushDraws = false) →
        (∀ j ∈ l1, eligible (s.entry j) = false) → exec .writeBackChoice s = .next t) ∧
      (s.allocationWaits = false → s.inFlush i = true →
        (∀ j ∈ l1, eligible (s.entry j) = false ∨ s.inFlush j = false) → exec .writeBackChoice s = .next t)) ∧
    ((∀ j ∈ s.merge.order, eligible (s.entry j) = false) → exec .writeBackChoice s = .next s) ∧
    (s.allocationWaits = false → s.dirtyCount < 32 ∨ s.flushDraws = true →
      (∀ j ∈ s.merge.order, eligible (s.entry j) = true → s.inFlush j = false) → exec .writeBackChoice s = .next s)) ∧
  (∀ (s : State),
    let forces (b : BusBeat) (i : Nat) : Prop := b.locked = true ∧ s.entryOf b.unit = some i ∧ eligible (s.entry i) = true
    (s.asking isWriteBack = true → exec .writeBackChoice s = .next s) ∧
    (s.forcedWrite = none ↔ ∀ b ∈ s.bus.heldCells, ∀ i, ¬forces b i) ∧
    (∀ l1 b l2 i e, s.inReset = false → s.asking isWriteBack = false → s.bus.heldCells = l1 ++ b :: l2 →
      (∀ c ∈ l1, ∀ j, ¬forces c j) → forces b i → s.entry i = some e →
      exec .writeBackChoice s = .next ((s.setEntry i (some { e with writeAsked := true })).ask
        ⟨.writeBack i, e.addr, some ⟨0xFF#8, e.record.word⟩⟩))) ∧
  (∀ (s : State) (which unit i : Nat) (after : StoredUnit) (found : Option EccCondition) (rest : List Access) (e : Entry),
    s.Completes isWriteBack which (.writeBack i) unit after found rest → s.entry i = some e →
    let t : State := s.landed unit after found rest
    let e' : Entry := if e.state = .writing then { e with state := .clean } else { e with writeOutstanding := false }
    exec (.writeBackComplete which) s = .next ((t.setEntry i (some e')).onMerge fun m => { m with
      flushes := m.flushes.map fun f =>
        { f with members := f.members.map fun x =>
            if x.entry = i ∧ x.granted = true then { x with settled := true } else x } }).settle)

/-- MERGE_FILL_DELIVERED: the entry takes the record read and is CLEAN, or starts afresh with LOST and is DIRTY when the
record was uncorrectable. The reads held on it are then served with that record, oldest first and without an error
response, and the view reads waiting on it resume (R97, R98, R110, R164). Then a loss is charged to the pixel's exposure,
and the waiting pixel's decision is made on the entry, which is DIRTY after it (R97, R98, R99). -/
def Obligations.FillDelivered : Prop :=
  ∀ (s : State) (unit i : Nat) (data : Word) (found : EccCondition) (rest : List Access) (e : Entry) (px : Pixel),
    s.Delivers isFill 0 .fill unit data found rest → s.entryOf unit = some i → s.entry i = some e →
    e.state = .filling → e.fillAsked = true → s.waitingPixel = some (px, .fill) →
    let t : State := s.delivered found rest
    let record : CellRecord := if found = .uncorrectable then ⟨0, 0, 0x20#8, 0⟩ else CellRecord.ofWord data
    let here (b : BusBeat) : Bool := !b.write && !b.locked && decide (b.unit = e.addr)
    let filled : State := t.setEntry i (some { e with
      record := record, state := if found = .uncorrectable then .dirty else .clean, fillAsked := false })
    let served : State := (filled.onBus fun f => { f with
      heldCells := f.heldCells.filter fun b => !here b
      responses := f.responses ++ (s.bus.heldCells.filter here).map fun b =>
        ⟨b.master, b.unit, .data record.word⟩ }).resumeViewsOn e.addr
    let lost : State := if found = .uncorrectable then
      (served.onRecord px.bank fun r => { r with counters := { r.counters with
        cellsLost := r.counters.cellsLost + 1 } }).recordFault px.bank .cellLost px.segment px.row px.column else served
    let out := mergeDecision (s.clipOf px.product) px.tag px.kind record
    exec .mergeFillDelivered s = .next (((((lost.setEntry i (some { e with
      record := out.1, state := .dirty, fillAsked := false })).touch i).countDecision px out.2).setWaiting
        none).rowCheck).settle

/-! ### Pixel pipeline and calibration (R44, R52 to R71) -/

/-- ROW_APPLY_START: the head of the ready queue becomes APPLYING, its bias state is updated from its overscan mean, and
its bias is fixed for the row (R44, R63, R64, R65). Here the row has a pixel to present.
The bias estimate by its four cases, and its range: from states and means within 0..1,048,560 it stays there, a
smoothing step between the old value and the mean, and the bias in ADU lies in 0..65535 (R64, R65). -/
def Obligations.RowApplied : Prop :=
  (∀ (s : State) (i : Nat) (rest : List Nat) (g : SegmentEntry),
    s.inReset = false → s.pipe.applying = none → s.capture.ready = i :: rest →
    s.segment (s.slot i).segment = some g → ((s.slot i).nextPixel 0 g.width).isSome = true →
    i < s.capture.slots.length →
    let v := s.slot i
    let mean := if g.overscan = 0 ∨ v.oscCount = 0 then none
      else some ((16 * v.oscSum + v.oscCount / 2) / v.oscCount)
    let bias := biasStep g.weight g.fixedBias (s.biasOf v.bank v.segment) mean
    exec .rowApplyStart s = .next (((s.setSlot i { v with state := .applying }).onCapture fun c =>
      { c with ready := rest }).onPipe fun p =>
        { bias := p.bias.set (256 * v.bank + v.segment) bias,
          applying := some ⟨i, 0, (bias.b16 + 8) / 16, none⟩ }).settle) ∧
  (∀ (weight fixed : Nat) (b : Bias) (m : Nat), weight ≤ 7 → fixed ≤ 65535 → b.b16 ≤ 1048560 → m ≤ 1048560 →
    (b.seeded = false → biasStep weight fixed b (some m) = ⟨true, m⟩) ∧
    (b.seeded = false → biasStep weight fixed b none = ⟨false, fixed * 16⟩) ∧
    (b.seeded = true → biasStep weight fixed b none = b) ∧
    (b.seeded = true → (biasStep weight fixed b (some m)).seeded = true ∧
      ((biasStep weight fixed b (some m)).b16 : Int) = b.b16 + ((m : Int) - b.b16).fdiv (2 ^ weight) ∧
      min b.b16 m ≤ (biasStep weight fixed b (some m)).b16 ∧ (biasStep weight fixed b (some m)).b16 ≤ max b.b16 m) ∧
    (∀ mean, mean = none ∨ mean = some m → (biasStep weight fixed b mean).b16 ≤ 1048560 ∧
      biasAdu (biasStep weight fixed b mean).b16 ≤ 65535))

/-- PIXEL_PRESENT: the next received image pixel is placed and classified. Off the grid it is counted so, before the
flat is looked at; dead likewise, where the flat is 0; otherwise it is saturated at the segment's level, or
calibrated with the slot's frames (0, 0 and 16384 where one is not loaded) and its exposure's factor, and handed to
the merge buffer (R49, R56, R70, R71, R83). On a held cell that no beat waits for its merge decision is made; on one
that is not held it allocates an entry, the lowest-numbered free one, else the least recently used CLEAN one, or
waits for one; and it waits while the cell is locked, or a held frame bus beat waits on its entry (R96, R97, R99,
R111, R113); that it allocates no entry while it waits for the lock is the model's inference (log 29). A decision
moves the exposure's counters and its tile's (R73 to R77, R127). An entry's fill is asked unless its cell is locked
or a frame bus write to it has not completed (R97). A row finishes once no pixel of it waits and none is left: it is
marked done, its slot falls FREE and is handed on (R44, R70, R128); a row map it completes ends the exposure
COMPLETE, its bank unbound and its rows being collected closed SHORT, before the slot is handed on (R129; that order
is the model's choice, logs 35 and 44), and with every slot FREE an ended exposure drains (R136). -/
def Obligations.PixelPresented : Prop :=
  (∀ (s : State) (a : Applying) (c : Nat) (raw : BitVec 16) (r : ExposureRecord) (g : SegmentEntry) (p : PlacedSegment),
    s.inReset = false → s.pipe.applying = some a → a.pixel = none →
    (s.slot a.slot).nextPixel a.column g.width = some (c, raw) →
    s.segment (s.slot a.slot).segment = some g → s.recordOf (s.slot a.slot).bank = some r →
    r.map.segments.find? (fun x => decide (x.segment = (s.slot a.slot).segment)) = some p →
    let v := s.slot a.slot
    let value (h : FrameHold) : Option (BitVec 16) := if h.status = some .loaded then some (h.row.getD c 0#16) else none
    let t : State := s.onPipe fun x => { x with applying := some { a with column := c + 1 } }
    let count (f : Counters → Counters) : State := t.onRecord v.bank fun r => { r with counters := f r.counters }
    (r.map.cell p c v.row = none → exec .pixelPresent s = .next (count fun k =>
      { k with presented := k.presented + 1, offGrid := k.offGrid + 1 }).rowCheck.settle) ∧
    (∀ cell, r.map.cell p c v.row = some cell →
      (value v.flat = some 0#16 → exec .pixelPresent s = .next (count fun k =>
        { k with presented := k.presented + 1, dead := k.dead + 1 }).rowCheck.settle) ∧
      (value v.flat ≠ some 0#16 →
        let addr := r.map.base + cell * 8
        let z : Int := ((value v.zero).map fun x => x.toInt).getD 0
        let d := ((value v.dark).map fun x => x.toNat).getD 0
        let flat := ((value v.flat).map fun x => x.toNat).getD 16384
        let factor := ((r.factors.find? fun x => decide (x.1 = v.segment)).map fun x => x.2).getD 0
        let kind : PixelKind := if g.satLevel ≤ raw.toNat then .saturated
          else calibrate raw.toNat a.bias z (darkCharge d r.exposureTime) flat factor
        let px : Pixel := ⟨addr, r.product, v.tag, v.bank, v.segment, v.row, c, kind⟩
        let u : State := count fun k => { k with presented := k.presented + 1 }
        let clear := ∀ l, s.bus.lock = some l → l.unit ≠ addr
        (∀ i e, s.entryOf addr = some i → s.entry i = some e → clear → (∀ b ∈ s.bus.heldCells, b.unit ≠ addr) →
          let out := mergeDecision (s.clipOf r.product) v.tag kind e.record
          exec .pixelPresent s = .next (((((u.setEntry i (some { e with
            record := out.1, state := .dirty
            writeOutstanding := e.writeOutstanding || decide (e.state = .writing) })).touch i).countDecision px
              out.2).setWaiting none).rowCheck).settle) ∧
        (s.entryOf addr = none → clear → exec .pixelPresent s = .next (u.allocate px).rowCheck.settle) ∧
        (¬clear ∨ (s.entryOf addr ≠ none ∧ ∃ b ∈ s.bus.heldCells, b.unit = addr) →
          exec .pixelPresent s = .next (u.setWaiting (some (px, .access))).rowCheck.settle)))) ∧
  (∀ (s : State) (px : Pixel),
    let taken (i : Nat) : State := (((s.dropEntry i).setEntry i
      (some ⟨px.addr, px.product, ⟨0, 0, 0#8, 0⟩, .filling, false, false, false⟩)).touch i).setWaiting (some (px, .fill))
    let unclean (j : Nat) : Prop := ∀ e, s.entry j = some e → e.state ≠ .clean
    (∀ l1 l2, s.merge.entries = l1 ++ none :: l2 → (∀ e ∈ l1, e ≠ none) →
      s.allocate px = (taken l1.length).askFill) ∧
    ((∀ e ∈ s.merge.entries, e ≠ none) →
      (∀ l1 i l2 e, s.merge.order = l1 ++ i :: l2 → s.entry i = some e → e.state = .clean → (∀ j ∈ l1, unclean j) →
        s.allocate px = (taken i).askFill) ∧
      ((∀ j ∈ s.merge.order, unclean j) → s.allocate px = s.setWaiting (some (px, .allocation)))) ∧
    (let unasked (e : Entry) : Prop := e.state = .filling ∧ e.fillAsked = false;
      ((∀ i e, s.entry i = some e → ¬unasked e) → s.askFill = s) ∧
      (∀ l1 e l2, s.merge.entries = l1 ++ some e :: l2 → unasked e → (∀ x, some x ∈ l1 → ¬unasked x) →
        let blocked := (∃ l, s.bus.lock = some l ∧ l.unit = e.addr) ∨
          (∃ k ∈ s.port.asks, isBusWrite k.job = true ∧ k.unit = e.addr) ∨
          (∃ k ∈ s.port.inFlight, isBusWrite k.job = true ∧ k.unit = e.addr) ∨
          ∃ b ∈ s.bus.heldCells, b.write = true ∧ b.unit = e.addr
        (blocked → s.askFill = s) ∧
        (¬blocked → s.askFill =
          (s.setEntry l1.length (some { e with fillAsked := true })).ask ⟨.fill, e.addr, none⟩))) ∧
    (∀ d : Decided, s.countDecision px d = s.onRecord px.bank fun r => { r with
      counters := (match d with
        | .saturated => { r.counters with saturated := r.counters.saturated + 1 }
        | .full => { r.counters with full := r.counters.full + 1 }
        | .rejected => { r.counters with rejected := r.counters.rejected + 1 }
        | .applied => { r.counters with applied := r.counters.applied + 1 })
      included := r.included.map fun x =>
        if (s.segment px.segment).map (fun g => g.tile) = some x.tile then
          (match d with
            | .saturated => { x with saturated := min (x.saturated + 1) 4294967295 }
            | .rejected => { x with rejected := min (x.rejected + 1) 4294967295 }
            | .full | .applied => x)
        else x })) ∧
  (∀ (s : State) (a : Applying), s.pipe.applying = some a →
    let v := s.slot a.slot
    let width := ((s.segment v.segment).map fun g => g.width).getD 0
    let more := ∃ x ∈ v.pixels, a.column ≤ x.1 ∧ x.1 < width
    (a.pixel ≠ none ∨ more → s.rowCheck = s) ∧
    (a.pixel = none → ¬more → s.rowCheck = s.finishRow a) ∧
    ∀ r, s.recordOf v.bank = some r →
      let done : State := ((s.onPipe fun p => { p with applying := none }).onRecord v.bank fun y =>
        { y with rowMap := y.rowMap ++ [(v.segment, v.row)] }).freeSlot a.slot
      let expected := (r.map.segments.map fun x => ((s.segment x.segment).map fun g => g.rows).getD 0).sum
      let whole := r.state = .active ∧ r.endStatus = none ∧ r.rowMap.length + 1 = expected
      (¬whole → s.finishRow a = done.handOn.drainCheck v.bank) ∧
      (whole →
        let ended : State := (done.onRecord v.bank fun y => { y with endStatus := some .complete }).unbind v.bank false
        let open_ := (List.range ended.capture.slots.length).filter fun i =>
          decide ((ended.slot i).bank = v.bank) && decide ((ended.slot i).state = .collecting)
        s.finishRow a =
          ((open_.foldl (fun t i => t.closeRow i .short (t.slot i).next) ended).handOn).drainCheck v.bank))

/-- The calibration arithmetic of a pixel that reaches it: the dark charge, the pre-scale value, the combined factor and
the calibrated value, each rounded and clamped as its rule says, and the one clamp mark (R66, R67, R68, R69).
A pixel on the grid falls in the cell of its position: the position by its orientation, X and Y by floor division
by the bin, the index Y × W + X below W × H (R80, R82, R83, R84). -/
def Obligations.PixelArithmetic : Prop :=
  (∀ (p b d e gain t flat : Nat) (z : Int), p ≤ 65534 → b ≤ 65535 → -32768 ≤ z → z ≤ 32767 → d ≤ 65535 →
    e ≤ 4194303 → gain ≤ 65535 → t ≤ 65535 → flat ≤ 65535 →
    let dk := darkCharge d e
    let q0 : Int := p - b - z - dk
    let q := max (-65536) (min 65535 q0)
    let k := combinedFactor gain t
    let c0 : Int := (q * flat * k + 33554432).fdiv 67108864
    dk = (d * e + 524288) / 1048576 ∧ dk ≤ 262140 ∧ -360442 ≤ q0 ∧ q0 ≤ 98302 ∧
    k = min 65535 ((gain * t + 8192) / 16384) ∧
    calibrate p b z dk flat k = .value (max (-2097152) (min 2097151 c0))
      (decide (q0 < -65536 ∨ 65535 < q0 ∨ c0 < -2097152 ∨ 2097151 < c0))) ∧
  (∀ (m : PlacementMap) (p : PlacedSegment) (x y : Nat), 0 < m.bin →
    let u := match p.orientation with
      | .ident | .flipY => p.u0 + x
      | .flipX | .rot180 => p.u0 - x
      | .transpose | .rot270 => p.u0 + y
      | .rot90 | .antiTranspose => p.u0 - y
    let v := match p.orientation with
      | .ident | .flipX => p.v0 + y
      | .flipY | .rot180 => p.v0 - y
      | .transpose | .rot90 => p.v0 + x
      | .rot270 | .antiTranspose => p.v0 - x
    (∀ i, m.cell p x y = some i → i < m.width * m.height ∧
      ((i % m.width : Nat) : Int) = u.fdiv m.bin ∧ ((i / m.width : Nat) : Int) = v.fdiv m.bin) ∧
    (m.cell p x y = none ↔ u < 0 ∨ (m.width * m.bin : Int) ≤ u ∨ v < 0 ∨ (m.height * m.bin : Int) ≤ v))

/-- CAL_FETCH_BEAT_DELIVERED: a beat is kept; the last makes the frame LOADED with its values; an uncorrectable one makes
it FAULTED with CAL_FAULT at the first column it covers; and a discarded one reaches no slot (R54, R55, R58).
With no read of its own waiting, the unit asks for the next beat of the fetch at the head of its list (R53). -/
def Obligations.CalBeats : Prop :=
  (∀ (s : State) (which unit i k : Nat) (f : Frame) (data : Word) (found : EccCondition) (rest : List Access)
    (l1 l2 : List Fetch) (x : Fetch),
    (s.Delivers isCalJob which .calDiscard unit data found rest →
      exec (.calFetchBeatDelivered which) s = .next (s.delivered found rest).settle) ∧
    (s.Delivers isCalJob which (.calRead i f k) unit data found rest → s.fetch = l1 ++ x :: l2 →
      x.slot = i → x.frame = f → (∀ y ∈ l1 ++ l2, y.slot ≠ i ∨ y.frame ≠ f) →
      let t : State := s.delivered found rest
      let finish (u : State) (h : FrameHold) : State :=
        (((u.setFetch (l1 ++ l2)).setSlot i ((u.slot i).setFrame f h)).readyTest i).fetchAsk
      (found ≠ .uncorrectable → x.got.length + 1 ≠ x.beats → exec (.calFetchBeatDelivered which) s =
        .next (t.setFetch (l1 ++ { x with got := x.got ++ [(k, data)] } :: l2)).settle) ∧
      (found ≠ .uncorrectable → x.got.length + 1 = x.beats → exec (.calFetchBeatDelivered which) s =
        .next (finish t ⟨some .loaded, rowValues (gathered x.beats (x.got ++ [(k, data)]))⟩).settle) ∧
      (found = .uncorrectable → exec (.calFetchBeatDelivered which) s =
        .next (finish (State.discardReads (isCalReadOf i) (State.withdraw (isCalReadOf i)
          (t.recordFault (s.slot i).bank .calFault (s.slot i).segment (s.slot i).row (4 * k))))
            ⟨some .faulted, []⟩).settle))) ∧
  (∀ s : State,
    (s.asking isCalRead = true ∨ s.fetch = [] → s.fetchAsk = s) ∧
    (∀ f rest, s.fetch = f :: rest →
      (f.beats ≤ f.asked → s.fetchAsk = s) ∧
      (s.asking isCalRead = false → f.asked < f.beats → s.fetchAsk =
        (s.setFetch ({ f with asked := f.asked + 1 } :: rest)).ask
          ⟨.calRead f.slot f.frame f.asked, f.addr + 8 * f.asked, none⟩)))

/-! ### Exposures (R120 to R138) -/

/-- ACTIVATION_ATTEMPT: with every condition of R120 the candidate's read begins, its first beat asked; a marked
candidate is finished as ABORTED_BEFORE_ACTIVE without being read (R121, R134). -/
def Obligations.AttemptMade : Prop :=
  ∀ (s : State) (c : RingEntry), s.inReset = false → s.part = .planned → s.restartInHand = false →
    s.expo.activation = none → s.expo.ring.find? (fun r => decide (r.state = .pending)) = some c → c.due = false →
    (∀ tag, c.mark = some tag → exec .activationAttempt s = .next (s.onExpo fun e => { e with
      waitBank := false, waitProduct := none
      ring := e.ring.map fun r => if r.number = c.number then { r with due := true } else r
      due := e.due ++ [⟨c.number, .rejected tag 0 0 .abortedBeforeActive []⟩] })) ∧
    (c.mark = none → s.loader.pendingMark = false → s.expo.records.length < 2 → s.expo.waitBank = false →
      s.expo.waitProduct = none → s.expo.tasks = [] → s.asking isExpoJob = false →
      exec .activationAttempt s = .next ((s.onExpo fun e => { e with
        activation := some ⟨c.number, 1, false⟩, tasks := [.activation] }).ask
          ⟨.descriptorRead 0, s.planBase + 0x8000 + c.number % 8 * 256, none⟩))

/-- DESCRIPTOR_READ_DONE: the copy is checked in order, the first failing check refusing the descriptor or making it wait,
and a candidate that passes is activated with its record, its bank bound and the bank's bias states unseeded (R62, R122
to R126, R146); a copy whose read was in progress when a RESTART was taken is discarded, and the candidate stays PENDING
(R139). The beats are delivered at the read's end (log 14).
The RANGE check's fields (R123); a tile in use is excluded when it is not selected, else when it is QUARANTINED, else
when it is withdrawn, and included otherwise, both lists ascending (R124); the record carries the descriptor's fields,
the combined factor of each included segment, and its placement map with each included segment's position from the
descriptor's offsets and the product's origin (R68, R85, R126). -/
def Obligations.CandidateExamined : Prop :=
  (∀ (s : State) (n : Nat) (discard : Bool) (c : RingEntry) (p : Plan) (q : ProductEntry),
    s.inReset = false → s.part = .planned → s.loader.pendingMark = false → s.restartInHand = false →
    s.expo.activation = some ⟨n, 32, discard⟩ → s.asking isDescriptorRead = false →
    canEndAll isDescriptorRead [] s.port.inFlight = true →
    s.expo.ring.find? (fun r => decide (r.number = n)) = some c → c.mark = none → c.state = .pending →
    s.loader.plan = some p →
    let got := s.deliverAll isDescriptorRead
    let copy := bytesOf (gathered 32 (got.1.filterMap fun x => match x.1 with
      | .descriptorRead k => some (k, x.2.1)
      | _ => none))
    let d := Descriptor.ofBytes copy
    let damaged := ∃ x ∈ got.1, x.2.2 = .uncorrectable
    let t : State := (got.2.onExpo fun e => { e with activation := none }).endTask .activation
    let refuse (why : Rejection) (x : List (Nat × Exclusion)) : State := t.reject c.number d.tag d.product d.bank why x
    let tiles := s.nullTiles d p
    (discard = true → exec .descriptorReadDone s = .next t.expoAsk) ∧
    (discard = false →
      (damaged ∨ d.marker ≠ 0x364E5845 → exec .descriptorReadDone s = .next (refuse .badDescriptor []).expoAsk) ∧
      (¬damaged → d.marker = 0x364E5845 →
        (s.recordOf d.bank ≠ none → exec .descriptorReadDone s =
          .next (t.onExpo fun e => { e with waitBank := true }).expoAsk) ∧
        (s.recordOf d.bank = none →
          (d.product < 4 → (s.product d.product).mark ≠ .none → exec .descriptorReadDone s =
            .next (t.onExpo fun e => { e with waitProduct := some d.product }).expoAsk) ∧
          (4 ≤ d.product ∨ (s.product d.product).mark = .none →
            (s.productEntry d.product = none ∨ (s.product d.product).state ≠ .opened →
              exec .descriptorReadDone s = .next (refuse .notOpen []).expoAsk) ∧
            (s.productEntry d.product = some q → (s.product d.product).state = .opened →
              ((∃ r ∈ s.expo.records, r.tag = d.tag) →
                exec .descriptorReadDone s = .next (refuse .tagInUse []).expoAsk) ∧
              ((∀ r ∈ s.expo.records, r.tag ≠ d.tag) →
                (d.rangeOk p = false → exec .descriptorReadDone s = .next (refuse .range []).expoAsk) ∧
                (d.rangeOk p = true → tiles.1 = [] →
                  exec .descriptorReadDone s = .next (refuse .noSegments tiles.2).expoAsk) ∧
                (d.rangeOk p = true → tiles.1 ≠ [] → exec .descriptorReadDone s =
                  .next ((((t.onExpo fun e => { e with
                    records := e.records ++ [activatedRecord d c.number p q tiles.1 tiles.2]
                    ring := e.ring.map fun r => if r.number = c.number then { r with state := .active } else r
                    }).setBank d.bank ⟨true, false⟩).onPipe fun x => { x with
                      bias := x.bias.mapIdx fun i b =>
                        if i / 256 = d.bank then ⟨false, 0⟩ else b }).expoAsk))))))))) ∧
  (∀ (s : State) (d : Descriptor) (number : Nat) (p : Plan) (q : ProductEntry),
    (d.rangeOk p = true ↔ 1 ≤ d.limit ∧ d.exposureTime ≤ 4194303 ∧ -1048576 ≤ d.du ∧ d.du ≤ 1048575 ∧
      -1048576 ≤ d.dv ∧ d.dv ≤ 1048575 ∧ (if d.bank = 0 then p.bank0 else p.bank1) ≠ 0 ∧ d.count ≤ 64) ∧
    (let selected (i : Nat) : Prop := d.count = 0 ∨ i ∈ d.tiles;
      (∀ i, i ∈ (s.nullTiles d p).1 ↔ ∃ t, p.tiles[i]? = some t ∧ selected i ∧ s.health i ≠ .quarantined ∧
        t.withdrawn = false) ∧
      (∀ i why, (i, why) ∈ (s.nullTiles d p).2 ↔ ∃ t, p.tiles[i]? = some t ∧
        ((¬selected i ∧ why = .notSelected) ∨ (selected i ∧ s.health i = .quarantined ∧ why = .quarantined) ∨
          (selected i ∧ s.health i ≠ .quarantined ∧ t.withdrawn = true ∧ why = .withdrawn))) ∧
      (s.nullTiles d p).1.Pairwise (fun i j => i < j) ∧ (s.nullTiles d p).2.Pairwise (fun x y => x.1 < y.1)) ∧
    (∀ (included : List Nat) (excluded : List (Nat × Exclusion)),
      let r := activatedRecord d number p q included excluded
      r = { state := .active, endStatus := none, number := number, tag := d.tag, product := d.product, bank := d.bank,
            exposureTime := d.exposureTime, transparency := d.transparency, du := d.du, dv := d.dv,
            capture := d.capture, limit := d.limit, elapsed := 0, included := included.map fun i => ⟨i, 0, 0, 0⟩,
            excluded := excluded, factors := r.factors,
            map := ⟨r.map.segments, q.bin, q.width, q.height, q.base⟩, rowMap := [],
            counters := ⟨0, 0, 0, 0, 0, 0, 0, 0, 0, 0⟩, firstFault := none } ∧
      (∀ i k, (i, k) ∈ r.factors ↔ ∃ e, p.segments[i]? = some e ∧ e.tile ∈ included ∧
        k = min 65535 ((e.gain * d.transparency + 8192) / 16384)) ∧
      (∀ x, x ∈ r.map.segments ↔ ∃ e, p.segments[x.segment]? = some e ∧ e.tile ∈ included ∧
        x = ⟨x.segment, e.orientation, e.x0 + d.du - q.px0, e.y0 + d.dv - q.py0⟩) ∧
      r.factors.Pairwise (fun x y => x.1 < y.1) ∧ r.map.segments.Pairwise (fun x y => x.segment < y.segment)))

/-- COMPLETION_TIMER_EXPIRY: the exposure is TIMED_OUT with its elapsed time at its limit, its bank unbound and late with
its held beats released; then its rows being collected close SHORT, the lowest-numbered slot first (log 12), the slots
that fall FREE are handed to held beats once all have closed (log 44), and with every slot FREE it drains (R26, R42, R45,
R130, R136). With no row
being collected and no beat held it drains at once, or stays ACTIVE while rows are still to be applied. -/
def Obligations.TimerExpired : Prop :=
  ∀ (s : State) (bank : Nat) (r : ExposureRecord),
    s.inReset = false → s.recordOf bank = some r → r.state = .active → r.endStatus = none →
    (let ended : State :=
        (s.onRecord bank fun x => { x with endStatus := some .timedOut, elapsed := x.limit }).unbind bank true
      let open_ := (List.range s.capture.slots.length).filter fun i =>
        decide ((s.slot i).bank = bank) && decide ((s.slot i).state = .collecting)
      let closed : State := open_.foldl (fun t i => t.closeRow i .short (t.slot i).next) ended
      exec (.completionTimerExpiry bank) s = .next (closed.handOn.drainCheck bank).settle) ∧
    ((s.bank bank).bound = true → s.capture.held = [] → s.slotsOf bank SlotState.isCollecting = [] →
      (s.slotsOf bank SlotState.isHeld ≠ [] → exec (.completionTimerExpiry bank) s =
        .next ((s.onRecord bank fun x => { x with endStatus := some .timedOut, elapsed := x.limit }).setBank bank
          ⟨false, true⟩).settle) ∧
      (s.slotsOf bank SlotState.isHeld = [] → exec (.completionTimerExpiry bank) s =
        .next (((s.onRecord bank fun x =>
          { x with endStatus := some .timedOut, elapsed := x.limit, state := .draining }).setBank bank
            ⟨false, true⟩).beginFlush (.drain bank) fun p => decide (p = r.product)).settle))

/-! ### Region engine (R151, R154 to R157) -/

/-- CLEAR_WRITE_COMPLETE and RENDER_WRITE_COMPLETE: when the last granted write of a job that asks for nothing more
completes, the product becomes OPEN or FROZEN, the engine is IDLE and JOB_DONE is raised (R151, R156); until then a
completion only stores the unit. Of a halted job, the completion that leaves no access of it completes the halt: the
engine is IDLE with the halting mark cleared, and no JOB_DONE is raised. The product is EMPTY after a clear and FROZEN
after a render, and HALT_JOB is replied DONE with the new state and cells done (R158, R159); a discard leaves it EMPTY and
is replied DONE with the state it was taken in (R149, R158); RESTART is replied later (R167). -/
def Obligations.JobWrites : Prop :=
  ∀ (s : State) (which unit : Nat) (after : StoredUnit) (found : Option EccCondition) (rest : List Access),
    let e := s.prod.engine
    let t : State := s.landed unit after found rest
    let more := s.asking isEngineJob = true ∨ (∃ x ∈ rest, isEngineJob x.job = true) ∨ e.done ≠ e.total
    (e.halting = none →
      (s.Completes isClearWrite which .clearWrite unit after found rest → e.kind = some .clear →
        (more → exec (.clearWriteComplete which) s = .next t.settle) ∧
        (¬more → exec (.clearWriteComplete which) s = .next (((t.setProduct e.product ⟨.opened, .none⟩).onEngine
          fun x => { x with kind := none }).raise .jobDone).settle)) ∧
      (∀ n, s.Completes isRenderWrite which (.renderWrite n) unit after found rest → e.kind = some .render →
        (more → exec (.renderWriteComplete which) s = .next t.settle) ∧
        (¬more → exec (.renderWriteComplete which) s = .next (((t.setProduct e.product ⟨.frozen, .none⟩).onEngine
          fun x => { x with kind := none }).raise .jobDone).settle))) ∧
    ∀ cause, e.halting = some cause →
      let waits := s.asking isEngineJob = true ∨ ∃ x ∈ rest, isEngineJob x.job = true
      let idle (left : ProductState) : State := (t.setProduct e.product ⟨left, .none⟩).onEngine fun x =>
        { x with kind := none, halting := none }
      let halted (left : ProductState) : State := match cause with
        | .request => (idle left).reply .done ⟨.product, e.product, 0, left.code, e.done⟩
        | .discard => (idle .empty).reply .done ⟨.product, e.product, 0, s.keptCode, 0⟩
        | .restart => idle left
      (s.Completes isClearWrite which .clearWrite unit after found rest → e.kind = some .clear →
        (waits → exec (.clearWriteComplete which) s = .next t.settle) ∧
        (¬waits → exec (.clearWriteComplete which) s = .next (halted .empty).settle)) ∧
      (∀ n, s.Completes isRenderWrite which (.renderWrite n) unit after found rest → e.kind = some .render →
        (waits → exec (.renderWriteComplete which) s = .next t.settle) ∧
        (¬waits → exec (.renderWriteComplete which) s = .next (halted .frozen).settle))

/-- RENDER_READ_DELIVERED: the record normalised with the job's rs, or BLANK when it was uncorrectable, is placed at its
position in the output beat; the value that makes the beat's values complete makes the engine ask for the write of its
unit, with the bytes beyond the last cell not enabled, and any other lets it ask for the next cell of the unit if one is
left (R154, R155, R157). R155 names the value of the beat's last cell;
that the write waits for every value of the beat, whatever the order of delivery, is the model's inference (log 25).
Of a halted job the value is discarded. The delivery that leaves no access of it completes the halt: the engine is IDLE
with the halting mark cleared, the product FROZEN with HALT_JOB replied DONE, or EMPTY with the discard replied DONE, and
no JOB_DONE is raised; RESTART is replied later (R149, R158, R159, R167). -/
def Obligations.RenderReads : Prop :=
  ∀ (s : State) (which unit cell : Nat) (data : Word) (found : EccCondition) (rest : List Access),
    s.Delivers isRenderRead which (.renderRead cell) unit data found rest →
    s.prod.engine.kind = some .render →
    let e := s.prod.engine
    let r := CellRecord.ofWord data
    let v := if found = .uncorrectable then 0x8000#16 else normalise r.sum r.hits e.rs
    let t : State := (s.delivered found rest).onEngine fun x => { x with values := e.values ++ [(cell % 4, v)] }
    let size := min 4 (e.total - 4 * e.outUnit)
    (e.halting = none → s.asking isEngineJob = true → exec (.renderReadDelivered which) s = .next t.settle) ∧
    (e.halting = none → s.asking isEngineJob = false → e.values.length + 1 = size →
      exec (.renderReadDelivered which) s = .next (t.ask ⟨.renderWrite size, e.outBase + 8 * e.outUnit,
        some ⟨BitVec.ofNat 8 (4 ^ size - 1), beatData (e.values ++ [(cell % 4, v)])⟩⟩).settle) ∧
    (e.halting = none → s.asking isEngineJob = false → e.values.length + 1 ≠ size →
      (e.total ≤ e.next ∨ e.next / 4 ≠ e.outUnit → exec (.renderReadDelivered which) s = .next t.settle) ∧
      (e.next < e.total → e.next / 4 = e.outUnit → exec (.renderReadDelivered which) s =
        .next ((t.onEngine fun x => { x with next := e.next + 1 }).ask
          ⟨.renderRead e.next, e.base + e.next * 8, none⟩).settle)) ∧
    ∀ cause, e.halting = some cause →
      let waits := s.asking isEngineJob = true ∨ ∃ x ∈ rest, isEngineJob x.job = true
      let idle (left : ProductState) : State := ((s.delivered found rest).setProduct e.product ⟨left, .none⟩).onEngine
        fun x => { x with kind := none, halting := none }
      let halted : State := match cause with
        | .request => (idle .frozen).reply .done ⟨.product, e.product, 0, ProductState.frozen.code, e.done⟩
        | .discard => (idle .empty).reply .done ⟨.product, e.product, 0, s.keptCode, 0⟩
        | .restart => idle .frozen
      (waits → exec (.renderReadDelivered which) s = .next (s.delivered found rest).settle) ∧
      (¬waits → exec (.renderReadDelivered which) s = .next halted.settle)

/-! ### Notice unit (R179, R198, R199) -/

/-- REPLY_WRITE_START and STATUS_WRITE_START: the idle notice unit writes a reply that waits before it writes a status
block that is wanted; a status block publishes the causes pending, and shows them as latched (R198, R201). That it shows
job product 0 while the engine is IDLE is the model's choice (log 48). -/
def Obligations.NoticeWritesStart : Prop :=
  ∀ (s : State), s.inReset = false → s.notice.status = none → s.notice.reply = none → s.asking isNoticeUnit = false →
    (∀ r, s.notice.replyWaiting = some r →
      let units := unitsOf 2 r.bytes
      exec .replyWriteStart s = .next ((s.onNotice fun n =>
        { n with replyWaiting := none, reply := some ⟨units, 1⟩ }).ask
          ⟨.replyUnit 0, s.planBase + 0x4040, some ⟨0xFF#8, units.getD 0 0#64⟩⟩) ∧
      exec .statusWriteStart s = .next s) ∧
    (s.notice.replyWaiting = none → s.notice.wanted = true →
      let n := (s.notice.statusSeq + 1) % 2 ^ 32
      let units := unitsOf 145 (s.statusBytes n (s.notice.latched ||| s.notice.pending))
      exec .statusWriteStart s = .next ((s.onNotice fun x => { x with
        wanted := false, pending := 0#9, statusSeq := n, status := some ⟨units, 1, s.notice.pending, true⟩ }).ask
          ⟨.statusUnit 0, s.planBase + 0x4100, some ⟨0xFF#8, units.getD 0 0#64⟩⟩)) ∧
    (s.notice.replyWaiting = none → s.notice.wanted = false → exec .statusWriteStart s = .next s)

/-- REPLY_WRITE_COMPLETE and STATUS_WRITE_COMPLETE with every unit granted: the request leaves the hand and REQUEST_DONE
is raised (R179); after the reply of a RESTART a commit that was pending then begins its load, asking for the first beat
of the plan body, once no exposure is active (R11, R24). The causes the block published join the latched set, and NOTICE
follows (R198). -/
def Obligations.NoticeWritesEnd : Prop :=
  ∀ (s : State), s.inReset = false → s.asking isReplyUnit = false → s.asking isStatusUnit = false →
    (∀ w, s.notice.reply = some w → w.asked = w.units.length → canEndAll isReplyUnit [] s.port.inFlight = true →
      let replied : State := (((s.landAll isReplyUnit s.port.inFlight.length).onNotice fun n =>
        { n with reply := none }).onBus fun f => { f with inHand := none }).raise .requestDone
      let loads := s.restartInHand = true ∧ s.loader.pendingMark = true ∧ s.loader.load = none ∧ s.expo.records = []
      (¬loads → exec .replyWriteComplete s = .next replied) ∧
      (loads → s.asking isPlanRead = false → exec .replyWriteComplete s =
        .next ((replied.onLoader fun l => { l with load := some ⟨1, [], none, false, false⟩ }).ask
          ⟨.planRead 0, s.planBase, none⟩))) ∧
    (∀ w, s.notice.status = some w → w.asked = w.units.length → canEndAll isStatusUnit [] s.port.inFlight = true →
      (∀ x ∈ s.port.inFlight, isReportUnit x.job = false) →
      let latched := if w.publishes then s.notice.latched ||| w.causes else s.notice.latched
      exec .statusWriteComplete s = .next ((s.landAll isStatusUnit s.port.inFlight.length).onNotice fun n =>
        { n with status := none, latched := latched, line := decide (latched &&& ~~~n.mask ≠ 0#9) }))

/-! ### Arithmetic, records and the plan's checks -/

/-- The normalised value: BLANK without hits, else the exact quotient sum / (hits × 2^rs) rounded half away from zero and
clamped to −32767..32767, never BLANK (R160). -/
def Obligations.Normalised : Prop :=
  ∀ (sum : Int) (hits rs : Nat),
    normalise sum 0 rs = 0x8000#16 ∧
    (0 < hits →
      let v := (normalise sum hits rs).toInt
      let d : Int := hits * 2 ^ rs
      normalise sum hits rs ≠ 0x8000#16 ∧
      (0 ≤ sum → 65535 * d ≤ 2 * sum → v = 32767) ∧
      (0 ≤ sum → 2 * sum < 65535 * d → 2 * v * d - d ≤ 2 * sum ∧ 2 * sum < 2 * v * d + d) ∧
      normalise (-sum) hits rs = - normalise sum hits rs)

/-- The merge decision: what it does to the cell in each of its four outcomes, and that it keeps sum in its signed 32
bits and hits in its 16, clears no flag and sets the tag (R73 to R76). -/
def Obligations.MergeDecided : Prop :=
  ∀ (clip : Clip) (tag : Nat) (r : CellRecord) (c : Int) (mark : Bool),
    let out := mergeDecision clip tag (.value c mark) r
    let flags := if mark then r.flags ||| 0x10#8 else r.flags
    let mean := r.sum.tdiv r.hits
    let rejects := 0 < clip.min ∧ clip.min ≤ r.hits ∧
      ((clip.floor + mean.natAbs / 2 ^ clip.shift : Nat) : Int) < |c - mean|
    mergeDecision clip tag .saturated r = (⟨r.sum, r.hits, r.flags ||| 0x01#8, tag⟩, .saturated) ∧
    (r.hits = 65535 → out = (⟨r.sum, r.hits, flags ||| 0x08#8, tag⟩, .full)) ∧
    (r.hits ≠ 65535 → rejects → out = (⟨r.sum, r.hits, flags ||| 0x02#8, tag⟩, .rejected)) ∧
    (r.hits ≠ 65535 → ¬rejects →
      (-2147483648 ≤ r.sum + c → r.sum + c ≤ 2147483647 → out = (⟨r.sum + c, r.hits + 1, flags, tag⟩, .applied)) ∧
      (2147483647 < r.sum + c → out = (⟨2147483647, r.hits + 1, flags ||| 0x04#8, tag⟩, .applied)) ∧
      (r.sum + c < -2147483648 → out = (⟨-2147483648, r.hits + 1, flags ||| 0x04#8, tag⟩, .applied))) ∧
    (r.hits ≤ 65535 → -2147483648 ≤ r.sum → r.sum ≤ 2147483647 →
      out.1.hits ≤ 65535 ∧ -2147483648 ≤ out.1.sum ∧ out.1.sum ≤ 2147483647) ∧
    out.1.flags &&& r.flags = r.flags ∧ out.1.tag = tag

/-- A cell record written by the part and read back is itself, its two spare bits included; every unit is the record it
reads as (R89, Table 12-13). -/
def Obligations.CellRecordRoundTrip : Prop :=
  (∀ r : CellRecord, -2147483648 ≤ r.sum → r.sum ≤ 2147483647 → r.hits ≤ 65535 → r.tag ≤ 255 →
    CellRecord.ofWord r.word = r) ∧
  ∀ w : Word, (CellRecord.ofWord w).word = w

/-- The checks of a commit in their order: the first that fails gives the outcome and its detail (R14).
RANGE: the header, the tile entries in use, the segment entries, the tiles' segment counts, the tiles' pitches and the
product entries, the first entry that fails giving the detail; within one, the first field that fails in the order of
its table, then the conditions that join fields (R6, R7, R8, R9, R17). That the counts and the pitches come after the
segment table and before the product table, all counts first, that a short count is charged to the tile's segment count
and a short pitch to its pitch, and the lack of both banks to the second bank's base, is the model's inference (log 26).
OVERLAP: the plan area, the banks, each defined product's accumulator, view and output regions and each tile's frames,
those present numbered in this order; the first that passes the end of fitted DRAM or shares a byte with an earlier one
fails, frames not being compared with one another (R18).
PRODUCT_IN_USE: a product that is not EMPTY keeps its geometry, and one that is RENDERING its rs and its output base
too; the first product and field that change give the detail, and nothing is compared without a plan in force (R19). -/
def Obligations.ChecksInOrder : Prop :=
  (∀ (b : Body) (l : Loader) (load : Load) (planBase fitted : Nat) (state : Nat → ProductState),
    let v := b.verdict l load planBase fitted state
    let gen := generationCheck l.argument l.complement (b.header 4 4) l.generation
    (b.header 0 4 ≠ 0x364E4C50 → v = (.marker, ⟨.header, 0, 0, 0, 0⟩)) ∧
    (b.header 0 4 = 0x364E4C50 →
      (∀ d, gen = some d → v = (.generation, d)) ∧
      (gen = none → b.sum ≠ b.header 8 4 → v = (.check, ⟨.header, 0, 9, 0, 0⟩)) ∧
      (gen = none → b.sum = b.header 8 4 →
        (load.changed = true → v = (.changed, Detail.zero)) ∧
        (∀ k, load.changed = false → load.firstBad = some k → v = (.memory, beatPlace k)) ∧
        (load.changed = false → load.firstBad = none →
          (∀ d, b.rangeCheck = some d → v = (.range, d)) ∧
          (∀ d, b.rangeCheck = none → b.plan.overlapCheck planBase fitted = some d → v = (.overlap, d)) ∧
          (∀ d, b.rangeCheck = none → b.plan.overlapCheck planBase fitted = none →
            inUseCheck l.plan b.plan state = some d → v = (.productInUse, d)) ∧
          (b.rangeCheck = none → b.plan.overlapCheck planBase fitted = none →
            inUseCheck l.plan b.plan state = none → v = (.done, Detail.zero)))))) ∧
  (∀ b : Body,
    let tables : List (DetailTable × Nat × (Nat → Option Nat)) :=
      [(.header, 1, fun _ => b.headerRange), (.tile, b.header 0x0C 2, b.tileRange),
        (.segment, b.header 0x0E 2, b.segmentRange), (.tile, b.header 0x0C 2, b.tileFilled),
        (.tile, b.header 0x0C 2, b.pitchBound), (.product, 4, b.productRange)]
    ((∀ x ∈ tables, ∀ i < x.2.1, x.2.2 i = none) → b.rangeCheck = none) ∧
    (∀ l1 x l2 i code, tables = l1 ++ x :: l2 → (∀ y ∈ l1, ∀ j < y.2.1, y.2.2 j = none) → i < x.2.1 →
      (∀ j < i, x.2.2 j = none) → x.2.2 i = some code → b.rangeCheck = some ⟨x.1, i, code, 0, 0⟩)) ∧
  (∀ (b : Body) (i : Nat),
    let first (l : List (Prop × Nat)) (found : Option Nat) : Prop :=
      (found = none ↔ ∀ x ∈ l, x.1) ∧
      ∀ l1 x l2, l = l1 ++ x :: l2 → (∀ y ∈ l1, y.1) → ¬x.1 → found = some (x.2 + 1)
    let coord (z : Int) : Prop := -1048576 ≤ z ∧ z ≤ 1048575
    let tile := b.segment i 0 1
    let a := b.segment i 4 2
    let k := b.segment i 6 2
    let named (j : Nat) : Prop := j < b.header 0x0E 2 ∧ b.segment j 0 1 = i
    first [(1 ≤ b.header 0x0C 2 ∧ b.header 0x0C 2 ≤ 64, 0x0C), (1 ≤ b.header 0x0E 2 ∧ b.header 0x0E 2 ≤ 256, 0x0E),
      (b.header 0x10 8 % 4294967296 = 0, 0x10), (b.header 0x18 8 % 4294967296 = 0, 0x18),
      (b.header 0x10 8 ≠ 0 ∨ b.header 0x18 8 ≠ 0, 0x18)] b.headerRange ∧
    first [(1 ≤ b.tile i 0 1 ∧ b.tile i 0 1 ≤ 16, 0), (b.tile i 1 1 ≤ 1, 1), (b.tile i 2 1 ≤ 1, 2),
      (b.tile i 8 8 % 8 = 0, 8), (b.tile i 0x10 8 % 8 = 0, 0x10), (b.tile i 0x18 8 % 8 = 0, 0x18),
      (b.tile i 4 4 % 8 = 0, 4), (b.tile i 0x20 4 % 8 = 0, 0x20)] (b.tileRange i) ∧
    first [(tile < b.header 0x0C 2, 0), (b.segment i 1 1 < b.tile tile 0 1, 1), (4 ≤ a ∧ a ≤ 2048, 4),
      (k = 0 ∨ k = 4 ∨ k = 8 ∨ k = 16 ∨ k = 32, 6), (1 ≤ b.segment i 8 2 ∧ b.segment i 8 2 ≤ 4096, 8),
      (coord (b.segmentSigned i 0x10), 0x10), (coord (b.segmentSigned i 0x14), 0x14), (b.segment i 2 1 < 8, 2),
      (a + k ≤ 2048 ∧ (a + k) % 4 = 0, 6),
      (∀ j < i, b.segment j 0 1 ≠ tile ∨ b.segment j 1 1 ≠ b.segment i 1 1, 1)] (b.segmentRange i) ∧
    first [(((List.range (b.header 0x0E 2)).countP fun j => decide (b.segment j 0 1 = i)) = b.tile i 0 1, 0)]
      (b.tileFilled i) ∧
    first [(∀ j, named j → 2 * b.segment j 4 2 ≤ b.tile i 4 4, 4)] (b.pitchBound i) ∧
    (b.product i 0 8 = 0 → b.productRange i = none) ∧
    (b.product i 0 8 ≠ 0 → first [(b.product i 0 8 % 4096 = 0, 0),
      (1 ≤ b.product i 0x18 2 ∧ b.product i 0x18 2 ≤ 32768, 0x18),
      (1 ≤ b.product i 0x1A 2 ∧ b.product i 0x1A 2 ≤ 32768, 0x1A),
      (b.product i 0x1C 1 = 1 ∨ b.product i 0x1C 1 = 2 ∨ b.product i 0x1C 1 = 4 ∨ b.product i 0x1C 1 = 8, 0x1C),
      (coord (b.productSigned i 0x24), 0x24), (coord (b.productSigned i 0x28), 0x28), (b.product i 0x1D 1 ≤ 15, 0x1D),
      (b.product i 8 8 % 8 = 0, 8), (b.product i 0x10 8 % 8 = 0, 0x10)] (b.productRange i))) ∧
  (∀ (p : Plan) (planBase fitted : Nat),
    let region (base size : Nat) : List Region := if base = 0 then [] else [⟨base, base + size, false⟩]
    let regions : List Region := ⟨planBase, planBase + 0x100000, false⟩ ::
      (region p.bank0 4294967296 ++ region p.bank1 4294967296 ++
        (p.products.flatMap fun e => if e.base = 0 then [] else region e.base (8 * (e.width * e.height)) ++
          region e.viewBase (2 * (e.width * e.height)) ++ region e.outBase (2 * (e.width * e.height))) ++
        (p.tiles.mapIdx fun i t => [t.zeroBase, t.darkBase, t.flatBase].flatMap fun base =>
          if base = 0 then [] else [⟨base, p.frameEnd i base t, true⟩]).flatten)
    let fails (i : Nat) : Prop := ∃ r, regions[i]? = some r ∧ (fitted < r.hi ∨ ∃ j < i, ∃ e, regions[j]? = some e ∧
      ¬(e.isFrame = true ∧ r.isFrame = true) ∧ e.lo < r.hi ∧ r.lo < e.hi)
    (∀ i, fails i → (∀ j < i, ¬fails j) → p.overlapCheck planBase fitted = some ⟨.region, i, 0, 0, 0⟩) ∧
    ((∀ i, ¬fails i) → p.overlapCheck planBase fitted = none) ∧
    ∀ (i base : Nat) (t : TileEntry),
      let ends := (p.segments.filter fun e => decide (e.tile = i)).map fun e =>
        base + e.index * t.stride + (e.rows - 1) * t.pitch + 2 * e.width
      (∀ x ∈ ends, x ≤ p.frameEnd i base t) ∧ p.frameEnd i base t ∈ base :: ends) ∧
  (∀ (old new : Plan) (state : Nat → ProductState),
    let entry (p : Plan) (i : Nat) : ProductEntry := p.products.getD i ProductEntry.undefined
    let changes (i : Nat) : List (Prop × Nat) := [((entry old i).base ≠ (entry new i).base, 0),
      ((entry old i).width ≠ (entry new i).width, 0x18), ((entry old i).height ≠ (entry new i).height, 0x1A),
      ((entry old i).bin ≠ (entry new i).bin, 0x1C), ((entry old i).px0 ≠ (entry new i).px0, 0x24),
      ((entry old i).py0 ≠ (entry new i).py0, 0x28),
      (state i = .rendering ∧ (entry old i).rs ≠ (entry new i).rs, 0x1F),
      (state i = .rendering ∧ (entry old i).outBase ≠ (entry new i).outBase, 0x10)]
    let kept (i : Nat) : Prop := state i = .empty ∨ ∀ x ∈ changes i, ¬x.1
    inUseCheck none new state = none ∧
    ((∀ i < 4, kept i) → inUseCheck (some old) new state = none) ∧
    (∀ i < 4, (∀ j < i, kept j) → state i ≠ .empty → ∀ l1 x l2, changes i = l1 ++ x :: l2 → (∀ y ∈ l1, ¬y.1) → x.1 →
      inUseCheck (some old) new state = some ⟨.product, i, x.2 + 1, 0, 0⟩))

/-- The GENERATION check and its three cases in their order, each with its detail (R15). -/
def Obligations.GenerationChecked : Prop :=
  ∀ (argument complement : BitVec 32) (header inForce : Nat),
    (complement ≠ ~~~argument →
      generationCheck argument complement header inForce = some ⟨.request, 0, 9, 0, 0⟩) ∧
    (complement = ~~~argument → header ≠ argument.toNat →
      generationCheck argument complement header inForce = some ⟨.header, 0, 5, 0, 0⟩) ∧
    (complement = ~~~argument → header = argument.toNat → header = 0 ∨ header = inForce →
      generationCheck argument complement header inForce = some ⟨.header, 1, 5, 0, 0⟩) ∧
    (complement = ~~~argument → header = argument.toNat → header ≠ 0 → header ≠ inForce →
      generationCheck argument complement header inForce = none)

/-- The check sum: the sum modulo 2^32 of every 32-bit little-endian word of the plan body, the check field at offset 8
taken as 0; the CHECK check fails exactly when it differs from the check field (R16). -/
def Obligations.CheckSummed : Prop :=
  ∀ b : Body,
    b.sum = (((List.range 2896).map fun i => if i = 2 then 0 else
      (b.getD (4 * i) 0#8).toNat + 256 * (b.getD (4 * i + 1) 0#8).toNat + 65536 * (b.getD (4 * i + 2) 0#8).toNat +
        16777216 * (b.getD (4 * i + 3) 0#8).toNat).sum) % 4294967296 ∧
    ∀ (l : Loader) (load : Load) (planBase fitted : Nat) (state : Nat → ProductState),
      b.header 0 4 = 0x364E4C50 →
      generationCheck l.argument l.complement (b.header 4 4) l.generation = none →
      ((b.verdict l load planBase fitted state).1 = .check ↔ b.sum ≠ field b 8 4)
end

