-- ==== Sys2Proof/Laws/State.lean ====
section
/-! SUPPORT. One lemma per field for each update of State. -/

namespace Sys2Proof.Machine

variable (s : State)

@[simp] theorem State.onBus_pending (f : BusFront → BusFront) : (s.onBus f).pending = s.pending := rfl
@[simp] theorem State.onBus_inReset (f : BusFront → BusFront) : (s.onBus f).inReset = s.inReset := rfl
@[simp] theorem State.onBus_straps (f : BusFront → BusFront) : (s.onBus f).straps = s.straps := rfl
@[simp] theorem State.onBus_part (f : BusFront → BusFront) : (s.onBus f).part = s.part := rfl
@[simp] theorem State.onBus_mem (f : BusFront → BusFront) : (s.onBus f).mem = s.mem := rfl
@[simp] theorem State.onBus_bus (f : BusFront → BusFront) : (s.onBus f).bus = f s.bus := rfl
@[simp] theorem State.onBus_capture (f : BusFront → BusFront) : (s.onBus f).capture = s.capture := rfl
@[simp] theorem State.onBus_fetch (f : BusFront → BusFront) : (s.onBus f).fetch = s.fetch := rfl
@[simp] theorem State.onBus_pipe (f : BusFront → BusFront) : (s.onBus f).pipe = s.pipe := rfl
@[simp] theorem State.onBus_merge (f : BusFront → BusFront) : (s.onBus f).merge = s.merge := rfl
@[simp] theorem State.onBus_expo (f : BusFront → BusFront) : (s.onBus f).expo = s.expo := rfl
@[simp] theorem State.onBus_prod (f : BusFront → BusFront) : (s.onBus f).prod = s.prod := rfl
@[simp] theorem State.onBus_loader (f : BusFront → BusFront) : (s.onBus f).loader = s.loader := rfl
@[simp] theorem State.onBus_notice (f : BusFront → BusFront) : (s.onBus f).notice = s.notice := rfl
@[simp] theorem State.onBus_port (f : BusFront → BusFront) : (s.onBus f).port = s.port := rfl
@[simp] theorem State.onBus_freeCount (f : BusFront → BusFront) : (s.onBus f).freeCount = s.freeCount := rfl

@[simp] theorem State.onCapture_pending (f : Capture → Capture) : (s.onCapture f).pending = s.pending := rfl
@[simp] theorem State.onCapture_inReset (f : Capture → Capture) : (s.onCapture f).inReset = s.inReset := rfl
@[simp] theorem State.onCapture_straps (f : Capture → Capture) : (s.onCapture f).straps = s.straps := rfl
@[simp] theorem State.onCapture_part (f : Capture → Capture) : (s.onCapture f).part = s.part := rfl
@[simp] theorem State.onCapture_mem (f : Capture → Capture) : (s.onCapture f).mem = s.mem := rfl
@[simp] theorem State.onCapture_bus (f : Capture → Capture) : (s.onCapture f).bus = s.bus := rfl
@[simp] theorem State.onCapture_capture (f : Capture → Capture) : (s.onCapture f).capture = f s.capture := rfl
@[simp] theorem State.onCapture_fetch (f : Capture → Capture) : (s.onCapture f).fetch = s.fetch := rfl
@[simp] theorem State.onCapture_pipe (f : Capture → Capture) : (s.onCapture f).pipe = s.pipe := rfl
@[simp] theorem State.onCapture_merge (f : Capture → Capture) : (s.onCapture f).merge = s.merge := rfl
@[simp] theorem State.onCapture_expo (f : Capture → Capture) : (s.onCapture f).expo = s.expo := rfl
@[simp] theorem State.onCapture_prod (f : Capture → Capture) : (s.onCapture f).prod = s.prod := rfl
@[simp] theorem State.onCapture_loader (f : Capture → Capture) : (s.onCapture f).loader = s.loader := rfl
@[simp] theorem State.onCapture_notice (f : Capture → Capture) : (s.onCapture f).notice = s.notice := rfl
@[simp] theorem State.onCapture_port (f : Capture → Capture) : (s.onCapture f).port = s.port := rfl
@[simp] theorem State.onCapture_freeCount (f : Capture → Capture) : (s.onCapture f).freeCount = s.freeCount := rfl

@[simp] theorem State.onPipe_pending (f : Pipeline → Pipeline) : (s.onPipe f).pending = s.pending := rfl
@[simp] theorem State.onPipe_inReset (f : Pipeline → Pipeline) : (s.onPipe f).inReset = s.inReset := rfl
@[simp] theorem State.onPipe_straps (f : Pipeline → Pipeline) : (s.onPipe f).straps = s.straps := rfl
@[simp] theorem State.onPipe_part (f : Pipeline → Pipeline) : (s.onPipe f).part = s.part := rfl
@[simp] theorem State.onPipe_mem (f : Pipeline → Pipeline) : (s.onPipe f).mem = s.mem := rfl
@[simp] theorem State.onPipe_bus (f : Pipeline → Pipeline) : (s.onPipe f).bus = s.bus := rfl
@[simp] theorem State.onPipe_capture (f : Pipeline → Pipeline) : (s.onPipe f).capture = s.capture := rfl
@[simp] theorem State.onPipe_fetch (f : Pipeline → Pipeline) : (s.onPipe f).fetch = s.fetch := rfl
@[simp] theorem State.onPipe_pipe (f : Pipeline → Pipeline) : (s.onPipe f).pipe = f s.pipe := rfl
@[simp] theorem State.onPipe_merge (f : Pipeline → Pipeline) : (s.onPipe f).merge = s.merge := rfl
@[simp] theorem State.onPipe_expo (f : Pipeline → Pipeline) : (s.onPipe f).expo = s.expo := rfl
@[simp] theorem State.onPipe_prod (f : Pipeline → Pipeline) : (s.onPipe f).prod = s.prod := rfl
@[simp] theorem State.onPipe_loader (f : Pipeline → Pipeline) : (s.onPipe f).loader = s.loader := rfl
@[simp] theorem State.onPipe_notice (f : Pipeline → Pipeline) : (s.onPipe f).notice = s.notice := rfl
@[simp] theorem State.onPipe_port (f : Pipeline → Pipeline) : (s.onPipe f).port = s.port := rfl
@[simp] theorem State.onPipe_freeCount (f : Pipeline → Pipeline) : (s.onPipe f).freeCount = s.freeCount := rfl

@[simp] theorem State.onMerge_pending (f : MergeBuffer → MergeBuffer) : (s.onMerge f).pending = s.pending := rfl
@[simp] theorem State.onMerge_inReset (f : MergeBuffer → MergeBuffer) : (s.onMerge f).inReset = s.inReset := rfl
@[simp] theorem State.onMerge_straps (f : MergeBuffer → MergeBuffer) : (s.onMerge f).straps = s.straps := rfl
@[simp] theorem State.onMerge_part (f : MergeBuffer → MergeBuffer) : (s.onMerge f).part = s.part := rfl
@[simp] theorem State.onMerge_mem (f : MergeBuffer → MergeBuffer) : (s.onMerge f).mem = s.mem := rfl
@[simp] theorem State.onMerge_bus (f : MergeBuffer → MergeBuffer) : (s.onMerge f).bus = s.bus := rfl
@[simp] theorem State.onMerge_capture (f : MergeBuffer → MergeBuffer) : (s.onMerge f).capture = s.capture := rfl
@[simp] theorem State.onMerge_fetch (f : MergeBuffer → MergeBuffer) : (s.onMerge f).fetch = s.fetch := rfl
@[simp] theorem State.onMerge_pipe (f : MergeBuffer → MergeBuffer) : (s.onMerge f).pipe = s.pipe := rfl
@[simp] theorem State.onMerge_merge (f : MergeBuffer → MergeBuffer) : (s.onMerge f).merge = f s.merge := rfl
@[simp] theorem State.onMerge_expo (f : MergeBuffer → MergeBuffer) : (s.onMerge f).expo = s.expo := rfl
@[simp] theorem State.onMerge_prod (f : MergeBuffer → MergeBuffer) : (s.onMerge f).prod = s.prod := rfl
@[simp] theorem State.onMerge_loader (f : MergeBuffer → MergeBuffer) : (s.onMerge f).loader = s.loader := rfl
@[simp] theorem State.onMerge_notice (f : MergeBuffer → MergeBuffer) : (s.onMerge f).notice = s.notice := rfl
@[simp] theorem State.onMerge_port (f : MergeBuffer → MergeBuffer) : (s.onMerge f).port = s.port := rfl
@[simp] theorem State.onMerge_freeCount (f : MergeBuffer → MergeBuffer) : (s.onMerge f).freeCount = s.freeCount := rfl

@[simp] theorem State.onExpo_pending (f : ExposureCtl → ExposureCtl) : (s.onExpo f).pending = s.pending := rfl
@[simp] theorem State.onExpo_inReset (f : ExposureCtl → ExposureCtl) : (s.onExpo f).inReset = s.inReset := rfl
@[simp] theorem State.onExpo_straps (f : ExposureCtl → ExposureCtl) : (s.onExpo f).straps = s.straps := rfl
@[simp] theorem State.onExpo_part (f : ExposureCtl → ExposureCtl) : (s.onExpo f).part = s.part := rfl
@[simp] theorem State.onExpo_mem (f : ExposureCtl → ExposureCtl) : (s.onExpo f).mem = s.mem := rfl
@[simp] theorem State.onExpo_bus (f : ExposureCtl → ExposureCtl) : (s.onExpo f).bus = s.bus := rfl
@[simp] theorem State.onExpo_capture (f : ExposureCtl → ExposureCtl) : (s.onExpo f).capture = s.capture := rfl
@[simp] theorem State.onExpo_fetch (f : ExposureCtl → ExposureCtl) : (s.onExpo f).fetch = s.fetch := rfl
@[simp] theorem State.onExpo_pipe (f : ExposureCtl → ExposureCtl) : (s.onExpo f).pipe = s.pipe := rfl
@[simp] theorem State.onExpo_merge (f : ExposureCtl → ExposureCtl) : (s.onExpo f).merge = s.merge := rfl
@[simp] theorem State.onExpo_expo (f : ExposureCtl → ExposureCtl) : (s.onExpo f).expo = f s.expo := rfl
@[simp] theorem State.onExpo_prod (f : ExposureCtl → ExposureCtl) : (s.onExpo f).prod = s.prod := rfl
@[simp] theorem State.onExpo_loader (f : ExposureCtl → ExposureCtl) : (s.onExpo f).loader = s.loader := rfl
@[simp] theorem State.onExpo_notice (f : ExposureCtl → ExposureCtl) : (s.onExpo f).notice = s.notice := rfl
@[simp] theorem State.onExpo_port (f : ExposureCtl → ExposureCtl) : (s.onExpo f).port = s.port := rfl
@[simp] theorem State.onExpo_freeCount (f : ExposureCtl → ExposureCtl) : (s.onExpo f).freeCount = s.freeCount := rfl

@[simp] theorem State.onProd_pending (f : ProductCtl → ProductCtl) : (s.onProd f).pending = s.pending := rfl
@[simp] theorem State.onProd_inReset (f : ProductCtl → ProductCtl) : (s.onProd f).inReset = s.inReset := rfl
@[simp] theorem State.onProd_straps (f : ProductCtl → ProductCtl) : (s.onProd f).straps = s.straps := rfl
@[simp] theorem State.onProd_part (f : ProductCtl → ProductCtl) : (s.onProd f).part = s.part := rfl
@[simp] theorem State.onProd_mem (f : ProductCtl → ProductCtl) : (s.onProd f).mem = s.mem := rfl
@[simp] theorem State.onProd_bus (f : ProductCtl → ProductCtl) : (s.onProd f).bus = s.bus := rfl
@[simp] theorem State.onProd_capture (f : ProductCtl → ProductCtl) : (s.onProd f).capture = s.capture := rfl
@[simp] theorem State.onProd_fetch (f : ProductCtl → ProductCtl) : (s.onProd f).fetch = s.fetch := rfl
@[simp] theorem State.onProd_pipe (f : ProductCtl → ProductCtl) : (s.onProd f).pipe = s.pipe := rfl
@[simp] theorem State.onProd_merge (f : ProductCtl → ProductCtl) : (s.onProd f).merge = s.merge := rfl
@[simp] theorem State.onProd_expo (f : ProductCtl → ProductCtl) : (s.onProd f).expo = s.expo := rfl
@[simp] theorem State.onProd_prod (f : ProductCtl → ProductCtl) : (s.onProd f).prod = f s.prod := rfl
@[simp] theorem State.onProd_loader (f : ProductCtl → ProductCtl) : (s.onProd f).loader = s.loader := rfl
@[simp] theorem State.onProd_notice (f : ProductCtl → ProductCtl) : (s.onProd f).notice = s.notice := rfl
@[simp] theorem State.onProd_port (f : ProductCtl → ProductCtl) : (s.onProd f).port = s.port := rfl
@[simp] theorem State.onProd_freeCount (f : ProductCtl → ProductCtl) : (s.onProd f).freeCount = s.freeCount := rfl

@[simp] theorem State.onLoader_pending (f : Loader → Loader) : (s.onLoader f).pending = s.pending := rfl
@[simp] theorem State.onLoader_inReset (f : Loader → Loader) : (s.onLoader f).inReset = s.inReset := rfl
@[simp] theorem State.onLoader_straps (f : Loader → Loader) : (s.onLoader f).straps = s.straps := rfl
@[simp] theorem State.onLoader_part (f : Loader → Loader) : (s.onLoader f).part = s.part := rfl
@[simp] theorem State.onLoader_mem (f : Loader → Loader) : (s.onLoader f).mem = s.mem := rfl
@[simp] theorem State.onLoader_bus (f : Loader → Loader) : (s.onLoader f).bus = s.bus := rfl
@[simp] theorem State.onLoader_capture (f : Loader → Loader) : (s.onLoader f).capture = s.capture := rfl
@[simp] theorem State.onLoader_fetch (f : Loader → Loader) : (s.onLoader f).fetch = s.fetch := rfl
@[simp] theorem State.onLoader_pipe (f : Loader → Loader) : (s.onLoader f).pipe = s.pipe := rfl
@[simp] theorem State.onLoader_merge (f : Loader → Loader) : (s.onLoader f).merge = s.merge := rfl
@[simp] theorem State.onLoader_expo (f : Loader → Loader) : (s.onLoader f).expo = s.expo := rfl
@[simp] theorem State.onLoader_prod (f : Loader → Loader) : (s.onLoader f).prod = s.prod := rfl
@[simp] theorem State.onLoader_loader (f : Loader → Loader) : (s.onLoader f).loader = f s.loader := rfl
@[simp] theorem State.onLoader_notice (f : Loader → Loader) : (s.onLoader f).notice = s.notice := rfl
@[simp] theorem State.onLoader_port (f : Loader → Loader) : (s.onLoader f).port = s.port := rfl
@[simp] theorem State.onLoader_freeCount (f : Loader → Loader) : (s.onLoader f).freeCount = s.freeCount := rfl

@[simp] theorem State.onNotice_pending (f : Notice → Notice) : (s.onNotice f).pending = s.pending := rfl
@[simp] theorem State.onNotice_inReset (f : Notice → Notice) : (s.onNotice f).inReset = s.inReset := rfl
@[simp] theorem State.onNotice_straps (f : Notice → Notice) : (s.onNotice f).straps = s.straps := rfl
@[simp] theorem State.onNotice_part (f : Notice → Notice) : (s.onNotice f).part = s.part := rfl
@[simp] theorem State.onNotice_mem (f : Notice → Notice) : (s.onNotice f).mem = s.mem := rfl
@[simp] theorem State.onNotice_bus (f : Notice → Notice) : (s.onNotice f).bus = s.bus := rfl
@[simp] theorem State.onNotice_capture (f : Notice → Notice) : (s.onNotice f).capture = s.capture := rfl
@[simp] theorem State.onNotice_fetch (f : Notice → Notice) : (s.onNotice f).fetch = s.fetch := rfl
@[simp] theorem State.onNotice_pipe (f : Notice → Notice) : (s.onNotice f).pipe = s.pipe := rfl
@[simp] theorem State.onNotice_merge (f : Notice → Notice) : (s.onNotice f).merge = s.merge := rfl
@[simp] theorem State.onNotice_expo (f : Notice → Notice) : (s.onNotice f).expo = s.expo := rfl
@[simp] theorem State.onNotice_prod (f : Notice → Notice) : (s.onNotice f).prod = s.prod := rfl
@[simp] theorem State.onNotice_loader (f : Notice → Notice) : (s.onNotice f).loader = s.loader := rfl
@[simp] theorem State.onNotice_notice (f : Notice → Notice) : (s.onNotice f).notice = f s.notice := rfl
@[simp] theorem State.onNotice_port (f : Notice → Notice) : (s.onNotice f).port = s.port := rfl
@[simp] theorem State.onNotice_freeCount (f : Notice → Notice) : (s.onNotice f).freeCount = s.freeCount := rfl

@[simp] theorem State.onPort_pending (f : Port → Port) : (s.onPort f).pending = s.pending := rfl
@[simp] theorem State.onPort_inReset (f : Port → Port) : (s.onPort f).inReset = s.inReset := rfl
@[simp] theorem State.onPort_straps (f : Port → Port) : (s.onPort f).straps = s.straps := rfl
@[simp] theorem State.onPort_part (f : Port → Port) : (s.onPort f).part = s.part := rfl
@[simp] theorem State.onPort_mem (f : Port → Port) : (s.onPort f).mem = s.mem := rfl
@[simp] theorem State.onPort_bus (f : Port → Port) : (s.onPort f).bus = s.bus := rfl
@[simp] theorem State.onPort_capture (f : Port → Port) : (s.onPort f).capture = s.capture := rfl
@[simp] theorem State.onPort_fetch (f : Port → Port) : (s.onPort f).fetch = s.fetch := rfl
@[simp] theorem State.onPort_pipe (f : Port → Port) : (s.onPort f).pipe = s.pipe := rfl
@[simp] theorem State.onPort_merge (f : Port → Port) : (s.onPort f).merge = s.merge := rfl
@[simp] theorem State.onPort_expo (f : Port → Port) : (s.onPort f).expo = s.expo := rfl
@[simp] theorem State.onPort_prod (f : Port → Port) : (s.onPort f).prod = s.prod := rfl
@[simp] theorem State.onPort_loader (f : Port → Port) : (s.onPort f).loader = s.loader := rfl
@[simp] theorem State.onPort_notice (f : Port → Port) : (s.onPort f).notice = s.notice := rfl
@[simp] theorem State.onPort_port (f : Port → Port) : (s.onPort f).port = f s.port := rfl
@[simp] theorem State.onPort_freeCount (f : Port → Port) : (s.onPort f).freeCount = s.freeCount := rfl

@[simp] theorem State.setFetch_pending (l : List Fetch) : (s.setFetch l).pending = s.pending := rfl
@[simp] theorem State.setFetch_inReset (l : List Fetch) : (s.setFetch l).inReset = s.inReset := rfl
@[simp] theorem State.setFetch_straps (l : List Fetch) : (s.setFetch l).straps = s.straps := rfl
@[simp] theorem State.setFetch_part (l : List Fetch) : (s.setFetch l).part = s.part := rfl
@[simp] theorem State.setFetch_mem (l : List Fetch) : (s.setFetch l).mem = s.mem := rfl
@[simp] theorem State.setFetch_bus (l : List Fetch) : (s.setFetch l).bus = s.bus := rfl
@[simp] theorem State.setFetch_capture (l : List Fetch) : (s.setFetch l).capture = s.capture := rfl
@[simp] theorem State.setFetch_fetch (l : List Fetch) : (s.setFetch l).fetch = l := rfl
@[simp] theorem State.setFetch_pipe (l : List Fetch) : (s.setFetch l).pipe = s.pipe := rfl
@[simp] theorem State.setFetch_merge (l : List Fetch) : (s.setFetch l).merge = s.merge := rfl
@[simp] theorem State.setFetch_expo (l : List Fetch) : (s.setFetch l).expo = s.expo := rfl
@[simp] theorem State.setFetch_prod (l : List Fetch) : (s.setFetch l).prod = s.prod := rfl
@[simp] theorem State.setFetch_loader (l : List Fetch) : (s.setFetch l).loader = s.loader := rfl
@[simp] theorem State.setFetch_notice (l : List Fetch) : (s.setFetch l).notice = s.notice := rfl
@[simp] theorem State.setFetch_port (l : List Fetch) : (s.setFetch l).port = s.port := rfl
@[simp] theorem State.setFetch_freeCount (l : List Fetch) : (s.setFetch l).freeCount = s.freeCount := rfl

@[simp] theorem State.setMem_pending (m : Memory) : (s.setMem m).pending = s.pending := rfl
@[simp] theorem State.setMem_inReset (m : Memory) : (s.setMem m).inReset = s.inReset := rfl
@[simp] theorem State.setMem_straps (m : Memory) : (s.setMem m).straps = s.straps := rfl
@[simp] theorem State.setMem_part (m : Memory) : (s.setMem m).part = s.part := rfl
@[simp] theorem State.setMem_mem (m : Memory) : (s.setMem m).mem = m := rfl
@[simp] theorem State.setMem_bus (m : Memory) : (s.setMem m).bus = s.bus := rfl
@[simp] theorem State.setMem_capture (m : Memory) : (s.setMem m).capture = s.capture := rfl
@[simp] theorem State.setMem_fetch (m : Memory) : (s.setMem m).fetch = s.fetch := rfl
@[simp] theorem State.setMem_pipe (m : Memory) : (s.setMem m).pipe = s.pipe := rfl
@[simp] theorem State.setMem_merge (m : Memory) : (s.setMem m).merge = s.merge := rfl
@[simp] theorem State.setMem_expo (m : Memory) : (s.setMem m).expo = s.expo := rfl
@[simp] theorem State.setMem_prod (m : Memory) : (s.setMem m).prod = s.prod := rfl
@[simp] theorem State.setMem_loader (m : Memory) : (s.setMem m).loader = s.loader := rfl
@[simp] theorem State.setMem_notice (m : Memory) : (s.setMem m).notice = s.notice := rfl
@[simp] theorem State.setMem_port (m : Memory) : (s.setMem m).port = s.port := rfl
@[simp] theorem State.setMem_freeCount (m : Memory) : (s.setMem m).freeCount = s.freeCount := rfl

@[simp] theorem State.setPending_pending (l : List Instr) : (s.setPending l).pending = l := rfl
@[simp] theorem State.setPending_inReset (l : List Instr) : (s.setPending l).inReset = s.inReset := rfl
@[simp] theorem State.setPending_straps (l : List Instr) : (s.setPending l).straps = s.straps := rfl
@[simp] theorem State.setPending_part (l : List Instr) : (s.setPending l).part = s.part := rfl
@[simp] theorem State.setPending_mem (l : List Instr) : (s.setPending l).mem = s.mem := rfl
@[simp] theorem State.setPending_bus (l : List Instr) : (s.setPending l).bus = s.bus := rfl
@[simp] theorem State.setPending_capture (l : List Instr) : (s.setPending l).capture = s.capture := rfl
@[simp] theorem State.setPending_fetch (l : List Instr) : (s.setPending l).fetch = s.fetch := rfl
@[simp] theorem State.setPending_pipe (l : List Instr) : (s.setPending l).pipe = s.pipe := rfl
@[simp] theorem State.setPending_merge (l : List Instr) : (s.setPending l).merge = s.merge := rfl
@[simp] theorem State.setPending_expo (l : List Instr) : (s.setPending l).expo = s.expo := rfl
@[simp] theorem State.setPending_prod (l : List Instr) : (s.setPending l).prod = s.prod := rfl
@[simp] theorem State.setPending_loader (l : List Instr) : (s.setPending l).loader = s.loader := rfl
@[simp] theorem State.setPending_notice (l : List Instr) : (s.setPending l).notice = s.notice := rfl
@[simp] theorem State.setPending_port (l : List Instr) : (s.setPending l).port = s.port := rfl
@[simp] theorem State.setPending_freeCount (l : List Instr) : (s.setPending l).freeCount = s.freeCount := rfl

end Sys2Proof.Machine
end

