-- ==== Sys2Proof/Laws/Kept.lean ====
section
/-! SUPPORT. What most operations leave alone: the commands waiting, the straps, the part state, the frame
store, the plan in force, the mask, the latched causes, the NOTICE line and the fairness count. One lemma per
operation; an operation missing here changes one of them. -/

namespace Sys2Proof.Machine

/-- The fields that most operations leave alone. -/
structure Kept where
  pending : List Instr
  inReset : Bool
  straps : Straps
  part : PartState
  mem : Memory
  plan : Option Plan
  generation : Nat
  mask : BitVec 9
  latched : BitVec 9
  line : Bool
  fairness : Nat

def State.kept (s : State) : Kept :=
  ⟨s.pending, s.inReset, s.straps, s.part, s.mem, s.loader.plan, s.loader.generation, s.notice.mask,
    s.notice.latched, s.notice.line, s.port.fairness⟩

variable (s : State)

@[simp] theorem State.onBus_kept (f : BusFront → BusFront) : (s.onBus f).kept = s.kept := rfl
@[simp] theorem State.onCapture_kept (f : Capture → Capture) : (s.onCapture f).kept = s.kept := rfl
@[simp] theorem State.onPipe_kept (f : Pipeline → Pipeline) : (s.onPipe f).kept = s.kept := rfl
@[simp] theorem State.onMerge_kept (f : MergeBuffer → MergeBuffer) : (s.onMerge f).kept = s.kept := rfl
@[simp] theorem State.onExpo_kept (f : ExposureCtl → ExposureCtl) : (s.onExpo f).kept = s.kept := rfl
@[simp] theorem State.onProd_kept (f : ProductCtl → ProductCtl) : (s.onProd f).kept = s.kept := rfl
@[simp] theorem State.setFetch_kept (l : List Fetch) : (s.setFetch l).kept = s.kept := rfl

theorem ite_kept (c : Prop) [Decidable c] (a b : State) :
    (if c then a else b).kept = if c then a.kept else b.kept := apply_ite _ _ _ _

/-- A fold of steps that each leave the fields alone leaves them alone. -/
theorem foldl_kept {α : Type} (f : State → α → State) (h : ∀ t a, (f t a).kept = t.kept) (l : List α) (t : State) :
    (l.foldl f t).kept = t.kept := by
  induction l generalizing t with
  | nil => rfl
  | cons a l ih => simp [List.foldl_cons, ih, h]

@[simp] theorem State.respond_kept (b : BusBeat) (a : Answer) : (s.respond b a).kept = s.kept := rfl

@[simp] theorem State.endLock_kept : (s.endLock).kept = s.kept := rfl

@[simp] theorem State.finishWrite_kept (b : BusBeat) : (s.finishWrite b).kept = s.kept := by
  unfold State.finishWrite
  repeat' (first | split | (dsimp only; split))
  all_goals simp [ite_kept]

@[simp] theorem State.raise_kept (c : Cause) : (s.raise c).kept = s.kept := by
  unfold State.raise
  split <;> rfl

@[simp] theorem State.wantStatus_kept : (s.wantStatus).kept = s.kept := rfl

@[simp] theorem State.countFound_kept (c : EccCondition) : (s.countFound c).kept = s.kept := by
  unfold State.countFound
  split
  · rfl
  · split
    · rfl
    · rfl
    · rw [State.raise_kept]; rfl

@[simp] theorem State.reply_kept (o : ReplyOutcome) (d : Detail) : (s.reply o d).kept = s.kept := by
  unfold State.reply
  split <;> rfl

@[simp] theorem State.keepInHand_kept (n : Nat) : (s.keepInHand n).kept = s.kept := rfl

@[simp] theorem State.ask_kept (a : Ask) : (s.ask a).kept = s.kept := rfl

@[simp] theorem State.withdraw_kept (p : Job → Bool) : (s.withdraw p).kept = s.kept := rfl

@[simp] theorem State.askRead_kept (b : BusBeat) : (s.askRead b).kept = s.kept := rfl

@[simp] theorem State.askStore_kept (r : Bool) (b : BusBeat) : (s.askStore r b).kept = s.kept := rfl

@[simp] theorem State.onRecord_kept (k : Nat) (f : ExposureRecord → ExposureRecord) : (s.onRecord k f).kept = s.kept := rfl

@[simp] theorem State.setSlot_kept (i : Nat) (v : Slot) : (s.setSlot i v).kept = s.kept := rfl

@[simp] theorem State.setEntry_kept (i : Nat) (v : Option Entry) : (s.setEntry i v).kept = s.kept := rfl

@[simp] theorem State.setProduct_kept (p : Nat) (v : Product) : (s.setProduct p v).kept = s.kept := rfl

@[simp] theorem State.setWaiting_kept (w : Option (Pixel × Waiting)) : (s.setWaiting w).kept = s.kept := rfl

@[simp] theorem State.fetchAsk_kept : (s.fetchAsk).kept = s.kept := by
  unfold State.fetchAsk
  repeat' (first | split | (dsimp only; split))
  all_goals simp [ite_kept]

@[simp] theorem State.discardReads_kept (p : Job → Bool) : (s.discardReads p).kept = s.kept := rfl

@[simp] theorem State.abandonFetches_kept (i : Nat) : (s.abandonFetches i).kept = s.kept := by
  unfold State.abandonFetches
  repeat' (first | split | (dsimp only; split))
  all_goals simp [ite_kept]

@[simp] theorem State.startFetch_kept (i : Nat) (t : TileEntry) (e : SegmentEntry) (f : Frame) : (s.startFetch i t e f).kept = s.kept := by
  unfold State.startFetch
  repeat' (first | split | (dsimp only; split))
  all_goals simp [ite_kept]

@[simp] theorem State.startFetches_kept (i : Nat) : (s.startFetches i).kept = s.kept := by
  unfold State.startFetches
  repeat' (first | split | (dsimp only; split))
  all_goals simp [ite_kept]

@[simp] theorem State.readyTest_kept (i : Nat) : (s.readyTest i).kept = s.kept := by
  unfold State.readyTest
  repeat' (first | split | (dsimp only; split))
  all_goals simp [ite_kept]

@[simp] theorem State.completeFetch_kept (f : Fetch) (x : FrameStatus) (r : List (BitVec 16)) : (s.completeFetch f x r).kept = s.kept := by
  unfold State.completeFetch
  repeat' (first | split | (dsimp only; split))
  all_goals simp [ite_kept]

@[simp] theorem State.recordFault_kept (b : Nat) (k : FaultKind) (x y z : Nat) : (s.recordFault b k x y z).kept = s.kept := rfl

@[simp] theorem State.fetchDelivered_kept (i : Nat) (f : Frame) (b : Nat) (d : Word) (c : EccCondition) : (s.fetchDelivered i f b d c).kept = s.kept := by
  unfold State.fetchDelivered
  repeat' (first | split | (dsimp only; split))
  all_goals simp [ite_kept]

@[simp] theorem State.freeSlot_kept (i : Nat) : (s.freeSlot i).kept = s.kept := by
  unfold State.freeSlot
  repeat' (first | split | (dsimp only; split))
  all_goals simp [ite_kept]

@[simp] theorem State.closeRow_kept (i : Nat) (k : Closure) (c : Nat) : (s.closeRow i k c).kept = s.kept := by
  unfold State.closeRow
  repeat' (first | split | (dsimp only; split))
  all_goals simp [ite_kept]

@[simp] theorem State.closeShort_kept (i : Nat) : (s.closeShort i).kept = s.kept := by
  unfold State.closeShort
  repeat' (first | split | (dsimp only; split))
  all_goals simp [ite_kept]

@[simp] theorem State.storeBeat_kept (i : Nat) (h : HeldBeat) : (s.storeBeat i h).kept = s.kept := by
  unfold State.storeBeat
  repeat' (first | split | (dsimp only; split))
  all_goals simp [ite_kept]

@[simp] theorem State.continueRow_kept (i : Nat) (h : HeldBeat) : (s.continueRow i h).kept = s.kept := by
  unfold State.continueRow
  repeat' (first | split | (dsimp only; split))
  all_goals simp [ite_kept]

@[simp] theorem State.completeRaw_kept (h : HeldBeat) : (s.completeRaw h).kept = s.kept := by
  unfold State.completeRaw
  repeat' (first | split | (dsimp only; split))
  all_goals simp [ite_kept]

@[simp] theorem State.takeSameRow_kept (b g r : Nat) (l : List HeldBeat) : (s.takeSameRow b g r l).kept = s.kept := by
  induction l generalizing s with
  | nil => rfl
  | cons h l ih =>
    simp only [State.takeSameRow]
    repeat' split
    all_goals simp [ih]

@[simp] theorem State.openRow_kept (i : Nat) (h : HeldBeat) : (s.openRow i h).kept = s.kept := by
  unfold State.openRow
  repeat' (first | split | (dsimp only; split))
  all_goals simp [ite_kept]

@[simp] theorem State.takeHeld_kept (i : Nat) (h : HeldBeat) : (s.takeHeld i h).kept = s.kept := by
  unfold State.takeHeld
  repeat' (first | split | (dsimp only; split))
  all_goals simp [ite_kept]

@[simp] theorem State.handSlots_kept (n : Nat) : (s.handSlots n).kept = s.kept := by
  induction n generalizing s with
  | zero => rfl
  | succ n ih =>
    simp only [State.handSlots]
    split <;> simp [ih]

@[simp] theorem State.handOn_kept : (s.handOn).kept = s.kept := by
  unfold State.handOn
  repeat' (first | split | (dsimp only; split))
  all_goals simp [ite_kept]

@[simp] theorem State.captureBeat_kept (h : HeldBeat) : (s.captureBeat h).kept = s.kept := by
  unfold State.captureBeat
  repeat' (first | split | (dsimp only; split))
  all_goals simp [ite_kept]

@[simp] theorem State.setBank_kept (b : Nat) (v : Bank) : (s.setBank b v).kept = s.kept := rfl

@[simp] theorem State.countUnbound_kept (l : Bool) : (s.countUnbound l).kept = s.kept := rfl

@[simp] theorem State.releaseHeld_kept (b : Nat) (l : Bool) : (s.releaseHeld b l).kept = s.kept := by
  unfold State.releaseHeld
  simp only []
  refine (foldl_kept _ ?_ _ _).trans rfl
  intros; rfl

@[simp] theorem State.unbind_kept (b : Nat) (l : Bool) : (s.unbind b l).kept = s.kept := by
  unfold State.unbind
  repeat' (first | split | (dsimp only; split))
  all_goals simp [ite_kept]

@[simp] theorem State.closeCollecting_kept (b : Nat) : (s.closeCollecting b).kept = s.kept := by
  unfold State.closeCollecting
  simp [foldl_kept]

@[simp] theorem State.freeUnapplied_kept (b : Nat) : (s.freeUnapplied b).kept = s.kept := by
  unfold State.freeUnapplied
  simp [foldl_kept]

@[simp] theorem State.dropEntry_kept (i : Nat) : (s.dropEntry i).kept = s.kept := by
  unfold State.dropEntry
  repeat' (first | split | (dsimp only; split))
  all_goals simp [ite_kept]

@[simp] theorem State.touch_kept (i : Nat) : (s.touch i).kept = s.kept := rfl

@[simp] theorem State.askFill_kept : (s.askFill).kept = s.kept := by
  unfold State.askFill
  repeat' (first | split | (dsimp only; split))
  all_goals simp [ite_kept]

@[simp] theorem State.allocate_kept (p : Pixel) : (s.allocate p).kept = s.kept := by
  unfold State.allocate
  repeat' (first | split | (dsimp only; split))
  all_goals simp [ite_kept]

@[simp] theorem State.finishView_kept (v : ViewRead) : (s.finishView v).kept = s.kept := by
  unfold State.finishView
  simp only []
  split <;> rfl

@[simp] theorem State.viewAdvance_kept (n : Nat) (v : ViewRead) : (s.viewAdvance n v).kept = s.kept := by
  induction n generalizing s v with
  | zero => exact s.finishView_kept v
  | succ n ih =>
    simp only [State.viewAdvance]
    repeat' split
    all_goals simp [ih]

@[simp] theorem State.resumeView_kept (v : ViewRead) : (s.resumeView v).kept = s.kept := by
  unfold State.resumeView
  repeat' (first | split | (dsimp only; split))
  all_goals simp [ite_kept]

@[simp] theorem State.resumeViewsOn_kept (a : Nat) : (s.resumeViewsOn a).kept = s.kept := by
  unfold State.resumeViewsOn
  simp [foldl_kept]

@[simp] theorem State.holdCell_kept (b : BusBeat) : (s.holdCell b).kept = s.kept := rfl

@[simp] theorem State.releaseReads_kept (a : Nat) : (s.releaseReads a).kept = s.kept := by
  unfold State.releaseReads
  simp only []
  rw [State.resumeViewsOn_kept]
  refine (foldl_kept _ ?_ _ _).trans rfl
  intros; rfl

@[simp] theorem State.freeUnasked_kept (i a : Nat) : (s.freeUnasked i a).kept = s.kept := by
  unfold State.freeUnasked
  repeat' (first | split | (dsimp only; split))
  all_goals simp [ite_kept]

@[simp] theorem State.countOverwritten_kept : (s.countOverwritten).kept = s.kept := rfl

@[simp] theorem State.cellBeat_kept (b : BusBeat) : (s.cellBeat b).kept = s.kept := by
  unfold State.cellBeat
  repeat' (first | split | (dsimp only; split))
  all_goals simp [ite_kept]

@[simp] theorem State.cellsAdvance_kept : (s.cellsAdvance).kept = s.kept := by
  unfold State.cellsAdvance
  simp [foldl_kept]

@[simp] theorem State.serveReads_kept (a : Nat) (w : Word) : (s.serveReads a w).kept = s.kept := by
  unfold State.serveReads
  simp only []
  rw [State.resumeViewsOn_kept]
  refine (foldl_kept _ ?_ _ _).trans rfl
  intros; rfl

@[simp] theorem State.askWriteBack_kept (i : Nat) : (s.askWriteBack i).kept = s.kept := by
  unfold State.askWriteBack
  repeat' (first | split | (dsimp only; split))
  all_goals simp [ite_kept]

@[simp] theorem State.writeBackGranted_kept (i : Nat) : (s.writeBackGranted i).kept = s.kept := by
  unfold State.writeBackGranted
  repeat' (first | split | (dsimp only; split))
  all_goals simp [ite_kept]

@[simp] theorem State.writeBackDone_kept (i : Nat) : (s.writeBackDone i).kept = s.kept := by
  unfold State.writeBackDone
  repeat' (first | split | (dsimp only; split))
  all_goals simp [ite_kept]

@[simp] theorem State.beginFlush_kept (a : FlushFor) (p : Nat → Bool) : (s.beginFlush a p).kept = s.kept := rfl

@[simp] theorem State.dropEntries_kept (p : Entry → Bool) : (s.dropEntries p).kept = s.kept := by
  unfold State.dropEntries
  simp [foldl_kept]

@[simp] theorem State.planAsk_kept : (s.planAsk).kept = s.kept := by
  unfold State.planAsk
  repeat' split
  all_goals rfl

@[simp] theorem State.beginLoad_kept (i : Bool) : (s.beginLoad i).kept = s.kept := by
  unfold State.beginLoad
  simp; rfl

@[simp] theorem State.beginDeferred_kept : (s.beginDeferred).kept = s.kept := by
  unfold State.beginDeferred
  repeat' (first | split | (dsimp only; split))
  all_goals simp [ite_kept]

@[simp] theorem State.markChanged_kept : (s.markChanged).kept = s.kept := rfl

@[simp] theorem State.clearLate_kept (o n b : Nat) : (State.clearLate o n b s).kept = s.kept := by
  unfold State.clearLate
  split <;> rfl

@[simp] theorem State.takeCommit_kept (r : RequestRecord) : (s.takeCommit r).kept = s.kept := by
  unfold State.takeCommit
  split
  · simp
  · simp only []
    split
    · rw [State.reply_kept]; rfl
    · rw [State.beginLoad_kept]; rfl

@[simp] theorem State.evaluateHealth_kept (l : List TileCount) : (s.evaluateHealth l).kept = s.kept := by
  unfold State.evaluateHealth
  split
  · rfl
  · simp only []
    split
    · rw [State.raise_kept]; rfl
    · rfl

@[simp] theorem State.takeRelease_kept (r : RequestRecord) : (s.takeRelease r).kept = s.kept := by
  unfold State.takeRelease
  repeat' split
  all_goals simp
  rfl

@[simp] theorem State.noticeAsk_kept : (s.noticeAsk).kept = s.kept := by
  unfold State.noticeAsk
  repeat' split
  all_goals rfl

@[simp] theorem State.startReply_kept (r : Reply) : (s.startReply r).kept = s.kept := by
  unfold State.startReply
  rw [State.noticeAsk_kept]; rfl

@[simp] theorem State.startStatus_kept : (s.startStatus).kept = s.kept := by
  unfold State.startStatus
  rw [State.noticeAsk_kept]; rfl

@[simp] theorem State.expoAsk_kept : (s.expoAsk).kept = s.kept := by
  unfold State.expoAsk
  repeat' (first | split | (dsimp only; split))
  all_goals simp [ite_kept]

@[simp] theorem State.beginTask_kept (t : ExpoTask) : (s.beginTask t).kept = s.kept := rfl

@[simp] theorem State.endTask_kept (t : ExpoTask) : (s.endTask t).kept = s.kept := rfl

@[simp] theorem State.onRing_kept (n : Nat) (f : RingEntry → RingEntry) : (s.onRing n f).kept = s.kept := rfl

@[simp] theorem State.takePost_kept (p : Nat) : (s.takePost p).kept = s.kept := by
  unfold State.takePost
  repeat' (first | split | (dsimp only; split))
  all_goals simp [ite_kept]

@[simp] theorem State.reportDue_kept (d : ReportDue) : (s.reportDue d).kept = s.kept := rfl

@[simp] theorem State.reject_kept (n t p b : Nat) (r : Rejection) (x : List (Nat × Exclusion)) : (s.reject n t p b r x).kept = s.kept := rfl

@[simp] theorem State.startReport_kept (d : ReportDue) (l : List ReportDue) : (s.startReport d l).kept = s.kept := by
  unfold State.startReport
  repeat' (first | split | (dsimp only; split))
  all_goals simp [ite_kept]

@[simp] theorem State.freeRecord_kept (b : Nat) : (s.freeRecord b).kept = s.kept := rfl

@[simp] theorem State.finishDescriptor_kept (w : ReportWrite) : (s.finishDescriptor w).kept = s.kept := by
  unfold State.finishDescriptor
  repeat' (first | split | (dsimp only; split))
  all_goals simp [ite_kept]

@[simp] theorem State.drainCheck_kept (b : Nat) : (s.drainCheck b).kept = s.kept := by
  unfold State.drainCheck
  repeat' (first | split | (dsimp only; split))
  all_goals simp [ite_kept]

@[simp] theorem State.endAborted_kept (b : Nat) : (s.endAborted b).kept = s.kept := by simp [State.endAborted]

@[simp] theorem State.abortRecord_kept (b : Nat) : (s.abortRecord b).kept = s.kept := by
  unfold State.abortRecord
  repeat' (first | split | (dsimp only; split))
  all_goals simp [ite_kept]

@[simp] theorem State.expire_kept (b : Nat) : (s.expire b).kept = s.kept := by
  unfold State.expire
  repeat' (first | split | (dsimp only; split))
  all_goals simp [ite_kept]

@[simp] theorem State.completeExposure_kept (b : Nat) : (s.completeExposure b).kept = s.kept := by
  unfold State.completeExposure
  repeat' (first | split | (dsimp only; split))
  all_goals simp [ite_kept]

@[simp] theorem State.attempt_kept (c : RingEntry) : (s.attempt c).kept = s.kept := by
  unfold State.attempt
  repeat' (first | split | (dsimp only; split))
  all_goals simp [ite_kept]

@[simp] theorem State.unseed_kept (b : Nat) : (s.unseed b).kept = s.kept := rfl

@[simp] theorem State.activate_kept (d : Descriptor) (n : Nat) (r : ExposureRecord) : (s.activate d n r).kept = s.kept := by
  unfold State.activate
  repeat' (first | split | (dsimp only; split))
  all_goals simp [ite_kept]

@[simp] theorem State.examine_kept (c : RingEntry) (d : Descriptor) (x : Bool) : (s.examine c d x).kept = s.kept := by
  unfold State.examine
  repeat' (first | split | (dsimp only; split))
  all_goals simp [ite_kept]

@[simp] theorem State.onSearch_kept (q : Option Search) : (s.onSearch q).kept = s.kept := rfl

@[simp] theorem State.searchNext_kept (l : List Nat) : (s.searchNext l).kept = s.kept := by
  unfold State.searchNext
  repeat' (first | split | (dsimp only; split))
  all_goals simp [ite_kept]

@[simp] theorem State.takeAbort_kept (r : RequestRecord) : (s.takeAbort r).kept = s.kept := by
  unfold State.takeAbort
  repeat' (first | split | (dsimp only; split))
  all_goals simp [ite_kept]

@[simp] theorem State.searchDelivered_kept (q : Search) (n : Nat) (d : Word) (c : EccCondition) : (s.searchDelivered q n d c).kept = s.kept := by
  unfold State.searchDelivered
  repeat' (first | split | (dsimp only; split))
  all_goals simp [ite_kept]

@[simp] theorem State.onEngine_kept (f : Engine → Engine) : (s.onEngine f).kept = s.kept := rfl

@[simp] theorem State.engineAsk_kept : (s.engineAsk).kept = s.kept := by
  unfold State.engineAsk
  repeat' (first | split | (dsimp only; split))
  all_goals simp [ite_kept]

@[simp] theorem State.startJob_kept (k : JobKind) (p : Nat) (q : ProductEntry) : (s.startJob k p q).kept = s.kept := by
  unfold State.startJob
  repeat' (first | split | (dsimp only; split))
  all_goals simp [ite_kept]

@[simp] theorem State.clearGranted_kept : (s.clearGranted).kept = s.kept := by
  unfold State.clearGranted
  repeat' (first | split | (dsimp only; split))
  all_goals simp [ite_kept]

@[simp] theorem State.renderGranted_kept (n : Nat) : (s.renderGranted n).kept = s.kept := by
  unfold State.renderGranted
  repeat' (first | split | (dsimp only; split))
  all_goals simp [ite_kept]

@[simp] theorem State.finishHalt_kept (k : JobKind) (c : HaltCause) : (s.finishHalt k c).kept = s.kept := by
  unfold State.finishHalt
  repeat' (first | split | (dsimp only; split))
  all_goals simp [ite_kept]

@[simp] theorem State.endJob_kept (k : JobKind) : (s.endJob k).kept = s.kept := by
  unfold State.endJob
  repeat' (first | split | (dsimp only; split))
  all_goals simp [ite_kept]

@[simp] theorem State.engineCheck_kept : (s.engineCheck).kept = s.kept := by
  unfold State.engineCheck
  repeat' (first | split | (dsimp only; split))
  all_goals simp [ite_kept]

@[simp] theorem State.halt_kept (c : HaltCause) : (s.halt c).kept = s.kept := by
  unfold State.halt
  repeat' (first | split | (dsimp only; split))
  all_goals simp [ite_kept]

@[simp] theorem State.renderDelivered_kept (n : Nat) (d : Word) (c : EccCondition) : (s.renderDelivered n d c).kept = s.kept := by
  unfold State.renderDelivered
  repeat' (first | split | (dsimp only; split))
  all_goals simp [ite_kept]

@[simp] theorem State.takeOpen_kept (r : RequestRecord) : (s.takeOpen r).kept = s.kept := by
  unfold State.takeOpen
  repeat' (first | split | (dsimp only; split))
  all_goals simp [ite_kept]

@[simp] theorem State.takeFreeze_kept (r : RequestRecord) : (s.takeFreeze r).kept = s.kept := by
  unfold State.takeFreeze
  repeat' (first | split | (dsimp only; split))
  all_goals simp [ite_kept]

@[simp] theorem State.takeThaw_kept (r : RequestRecord) : (s.takeThaw r).kept = s.kept := by
  unfold State.takeThaw
  repeat' (first | split | (dsimp only; split))
  all_goals simp [ite_kept]

@[simp] theorem State.takeRender_kept (r : RequestRecord) : (s.takeRender r).kept = s.kept := by
  unfold State.takeRender
  repeat' (first | split | (dsimp only; split))
  all_goals simp [ite_kept]

@[simp] theorem State.takeDiscard_kept (r : RequestRecord) : (s.takeDiscard r).kept = s.kept := by
  unfold State.takeDiscard
  repeat' (first | split | (dsimp only; split))
  all_goals simp [ite_kept]

@[simp] theorem State.takeHalt_kept : (s.takeHalt).kept = s.kept := by
  unfold State.takeHalt
  repeat' (first | split | (dsimp only; split))
  all_goals simp [ite_kept]

@[simp] theorem State.finishRow_kept (a : Applying) : (s.finishRow a).kept = s.kept := by
  unfold State.finishRow
  repeat' (first | split | (dsimp only; split))
  all_goals simp [ite_kept]

@[simp] theorem State.rowCheck_kept : (s.rowCheck).kept = s.kept := by
  unfold State.rowCheck
  repeat' (first | split | (dsimp only; split))
  all_goals simp [ite_kept]

@[simp] theorem State.applyRow_kept (i : Nat) (l : List Nat) : (s.applyRow i l).kept = s.kept := by
  unfold State.applyRow
  repeat' (first | split | (dsimp only; split))
  all_goals simp [ite_kept]

@[simp] theorem State.countDecision_kept (p : Pixel) (d : Decided) : (s.countDecision p d).kept = s.kept := rfl

@[simp] theorem State.decidePixel_kept (p : Pixel) (i : Nat) : (s.decidePixel p i).kept = s.kept := by
  unfold State.decidePixel
  repeat' (first | split | (dsimp only; split))
  all_goals simp [ite_kept]

@[simp] theorem State.offerPixel_kept (p : Pixel) : (s.offerPixel p).kept = s.kept := by
  unfold State.offerPixel
  repeat' (first | split | (dsimp only; split))
  all_goals simp [ite_kept]

@[simp] theorem State.pixelRetry_kept : (s.pixelRetry).kept = s.kept := by
  unfold State.pixelRetry
  repeat' (first | split | (dsimp only; split))
  all_goals simp [ite_kept]

@[simp] theorem State.presentPixel_kept (a : Applying) (c : Nat) (v : BitVec 16) : (s.presentPixel a c v).kept = s.kept := by
  unfold State.presentPixel
  repeat' (first | split | (dsimp only; split))
  all_goals simp [ite_kept]

@[simp] theorem State.chargeLost_kept (p : Pixel) : (s.chargeLost p).kept = s.kept := rfl

@[simp] theorem State.fillDelivered_kept (i : Nat) (e : Entry) (d : Word) (c : EccCondition) : (s.fillDelivered i e d c).kept = s.kept := by
  unfold State.fillDelivered
  repeat' (first | split | (dsimp only; split))
  all_goals simp [ite_kept]

@[simp] theorem State.flushDone_kept (f : Flush) : (s.flushDone f).kept = s.kept := by
  unfold State.flushDone
  repeat' (first | split | (dsimp only; split))
  all_goals simp [ite_kept]

@[simp] theorem State.flushAdvance_kept : (s.flushAdvance).kept = s.kept := by
  unfold State.flushAdvance
  simp [foldl_kept]

@[simp] theorem State.discardStep_kept (p : Nat) : (s.discardStep p).kept = s.kept := by
  unfold State.discardStep
  repeat' (first | split | (dsimp only; split))
  all_goals simp [ite_kept]

@[simp] theorem State.discardAdvance_kept : (s.discardAdvance).kept = s.kept := by
  unfold State.discardAdvance
  simp [foldl_kept]

@[simp] theorem State.restartFlush_kept (r : RestartProgress) : (s.restartFlush r).kept = s.kept := by
  unfold State.restartFlush
  split <;> rfl

@[simp] theorem State.restartDrop_kept (r : RestartProgress) : (s.restartDrop r).kept = s.kept := by
  unfold State.restartDrop
  repeat' (first | split | (dsimp only; split))
  all_goals simp [ite_kept]

@[simp] theorem State.restartReply_kept (r : RestartProgress) : (s.restartReply r).kept = s.kept := by
  unfold State.restartReply
  repeat' (first | split | (dsimp only; split))
  all_goals simp [ite_kept]

@[simp] theorem State.restartAdvance_kept : (s.restartAdvance).kept = s.kept := by
  unfold State.restartAdvance
  repeat' (first | split | (dsimp only; split))
  all_goals simp [ite_kept]

@[simp] theorem State.mergeSettle_kept : (s.mergeSettle).kept = s.kept := by
  unfold State.mergeSettle
  repeat' (first | split | (dsimp only; split))
  all_goals simp [ite_kept]

@[simp] theorem State.completeUnused_kept (c : Bool) (b : BusBeat) : (s.completeUnused c b).kept = s.kept := by
  unfold State.completeUnused
  repeat' (first | split | (dsimp only; split))
  all_goals simp [ite_kept]

@[simp] theorem State.rawWrite_kept (k : Nat) (b : BusBeat) : (s.rawWrite k b).kept = s.kept := by
  unfold State.rawWrite
  repeat' (first | split | (dsimp only; split))
  all_goals simp [ite_kept]

@[simp] theorem State.protectedWrite_kept (b : BusBeat) : (s.protectedWrite b).kept = s.kept := by
  unfold State.protectedWrite
  repeat' (first | split | (dsimp only; split))
  all_goals simp [ite_kept]

@[simp] theorem State.planAreaWrite_kept (b : BusBeat) : (s.planAreaWrite b).kept = s.kept := by
  unfold State.planAreaWrite
  repeat' (first | split | (dsimp only; split))
  all_goals simp [ite_kept]

@[simp] theorem State.cellRegion_kept (p : Nat) (b : BusBeat) : (s.cellRegion p b).kept = s.kept := by
  unfold State.cellRegion
  repeat' (first | split | (dsimp only; split))
  all_goals simp [ite_kept]

@[simp] theorem State.viewRead_kept (p : Nat) (b : BusBeat) : (s.viewRead p b).kept = s.kept := by
  unfold State.viewRead
  repeat' (first | split | (dsimp only; split))
  all_goals simp [ite_kept]

@[simp] theorem State.routeBeat_kept (b : BusBeat) : (s.routeBeat b).kept = s.kept := by
  unfold State.routeBeat
  repeat' (first | split | (dsimp only; split))
  all_goals simp [ite_kept]

@[simp] theorem State.takeLock_kept (b : BusBeat) : (s.takeLock b).kept = s.kept := rfl

@[simp] theorem State.takeCore_kept (b : BusBeat) : (s.takeCore b).kept = s.kept := by
  unfold State.takeCore
  repeat' (first | split | (dsimp only; split))
  all_goals simp [ite_kept]

@[simp] theorem State.takeBeat_kept (b : BusBeat) : (s.takeBeat b).kept = s.kept := by
  unfold State.takeBeat
  repeat' (first | split | (dsimp only; split))
  all_goals simp [ite_kept]

@[simp] theorem State.retake_kept (n : Nat) : (s.retake n).kept = s.kept := by
  induction n generalizing s with
  | zero => rfl
  | succ n ih =>
    simp only [State.retake]
    repeat' split
    all_goals simp [ih]

@[simp] theorem State.settle_kept : (s.settle).kept = s.kept := by
  unfold State.settle
  repeat' (first | split | (dsimp only; split))
  all_goals simp [ite_kept]

@[simp] theorem State.arrive_kept (b : BusBeat) : (s.arrive b).kept = s.kept := by
  unfold State.arrive
  repeat' (first | split | (dsimp only; split))
  all_goals simp [ite_kept]

@[simp] theorem State.loseHeld_kept (h : HeldBeat) : (s.loseHeld h).kept = s.kept := by
  unfold State.loseHeld
  repeat' (first | split | (dsimp only; split))
  all_goals simp [ite_kept]

@[simp] theorem State.startHold_kept : (s.startHold).kept = s.kept := rfl

@[simp] theorem State.afterGrant_kept (j : Job) : (s.afterGrant j).kept = s.kept := by
  unfold State.afterGrant
  repeat' (first | split | (dsimp only; split))
  all_goals simp [ite_kept]

@[simp] theorem State.rsUsed_kept (p : Nat) : (s.rsUsed p).kept = s.kept := by
  unfold State.rsUsed
  split <;> rfl

@[simp] theorem State.positionDelivered_kept (v : ViewRead) (d : Word) (c : EccCondition) : (s.positionDelivered v d c).kept = s.kept := by
  unfold State.positionDelivered
  repeat' (first | split | (dsimp only; split))
  all_goals simp [ite_kept]

@[simp] theorem State.loseRequest_kept : (s.loseRequest).kept = s.kept := by
  unfold State.loseRequest
  repeat' (first | split | (dsimp only; split))
  all_goals simp [ite_kept]

@[simp] theorem State.takeRequest_kept (v : BitVec 32) : (s.takeRequest v).kept = s.kept := by
  unfold State.takeRequest
  repeat' (first | split | (dsimp only; split))
  all_goals simp [ite_kept]

@[simp] theorem State.partWord_kept (c : ControlWord) : (s.partWord c).kept = s.kept := by
  unfold State.partWord
  repeat' (first | split | (dsimp only; split))
  all_goals simp [ite_kept]

@[simp] theorem State.dispatch_kept (q : Request) (r : RequestRecord) : (s.dispatch q r).kept = s.kept := by
  unfold State.dispatch
  repeat' (first | split | (dsimp only; split))
  all_goals simp [ite_kept]

@[simp] theorem State.beginRestart_kept : (s.beginRestart).kept = s.kept := rfl

@[simp] theorem State.restartRead_kept : (s.restartRead).kept = s.kept := rfl

@[simp] theorem State.restartExposures_kept : (s.restartExposures).kept = s.kept := by
  unfold State.restartExposures
  simp only []
  rw [foldl_kept _ (by simp), foldl_kept _ (by simp), foldl_kept _ (by simp)]

@[simp] theorem State.restartJob_kept : (s.restartJob).kept = s.kept := by
  unfold State.restartJob
  repeat' (first | split | (dsimp only; split))
  all_goals simp [ite_kept]

@[simp] theorem State.replyDone_kept : (s.replyDone).kept = s.kept := by
  unfold State.replyDone
  simp only []
  split <;> simp <;> rfl

end Sys2Proof.Machine
end

