-- ==== Sys2Proof/Laws/Memory.lean ====
section
/-! SUPPORT. The frame store: a read after a write, and the canonical form that every operation on memory keeps. -/

namespace Sys2Proof.Machine

/-! ### Sorted lists with a default -/

section Assoc

variable {α : Type} [DecidableEq α] (d : α)

theorem assocWfAbove_mono {lo lo' : Nat} (h : lo' ≤ lo) (l : List (Nat × α)) (w : assocWfAbove d lo l = true) :
    assocWfAbove d lo' l = true := by
  cases l with
  | nil => rfl
  | cons a l =>
    simp only [assocWfAbove, Bool.and_eq_true, decide_eq_true_eq] at *
    exact ⟨⟨by omega, w.1.2⟩, w.2⟩

theorem assocGet_below {lo k : Nat} (l : List (Nat × α)) (w : assocWfAbove d lo l = true) (h : k < lo) :
    assocGet d k l = d := by
  induction l generalizing lo with
  | nil => rfl
  | cons a l ih =>
    simp only [assocWfAbove, Bool.and_eq_true, decide_eq_true_eq] at w
    rw [assocGet, if_neg (by omega)]
    exact ih w.2 (by omega)

/-- Setting a key keeps the canonical form. -/
theorem assocSet_wf {lo k : Nat} (v : α) (l : List (Nat × α)) (w : assocWfAbove d lo l = true) (h : lo ≤ k) :
    assocWfAbove d lo (assocSet d k v l) = true := by
  induction l generalizing lo with
  | nil =>
    simp only [assocSet]
    split <;> simp_all [assocWfAbove]
  | cons a l ih =>
    have w' := w
    simp only [assocWfAbove, Bool.and_eq_true, decide_eq_true_eq] at w
    simp only [assocSet]
    split
    · split
      · exact w'
      · simp only [assocWfAbove, Bool.and_eq_true, decide_eq_true_eq]
        refine ⟨⟨h, ‹_›⟩, ⟨by omega, w.1.2⟩, w.2⟩
    · split
      · split
        · exact assocWfAbove_mono d (by omega) l w.2
        · simp only [assocWfAbove, Bool.and_eq_true, decide_eq_true_eq]
          exact ⟨⟨h, ‹_›⟩, by simp_all⟩
      · simp only [assocWfAbove, Bool.and_eq_true, decide_eq_true_eq]
        exact ⟨w.1, ih w.2 (by omega)⟩

/-- A set key reads as set. -/
theorem assocGet_set_same {lo k : Nat} (v : α) (l : List (Nat × α)) (w : assocWfAbove d lo l = true) :
    assocGet d k (assocSet d k v l) = v := by
  induction l generalizing lo with
  | nil => simp only [assocSet]; split <;> simp_all [assocGet]
  | cons a l ih =>
    have w' := w
    simp only [assocWfAbove, Bool.and_eq_true, decide_eq_true_eq] at w
    simp only [assocSet]
    split
    · split
      · next hv => rw [assocGet, if_neg (by omega), hv]; exact assocGet_below d l w.2 (by omega)
      · simp [assocGet]
    · split
      · split
        · next hk hv => rw [hv]; exact assocGet_below d l w.2 (by omega)
        · simp [assocGet]
      · next hk => rw [assocGet, if_neg hk]; exact ih w.2

/-- Every other key reads as before. -/
theorem assocGet_set_other {j k : Nat} (v : α) (l : List (Nat × α)) (h : k ≠ j) :
    assocGet d k (assocSet d j v l) = assocGet d k l := by
  induction l with
  | nil => simp only [assocSet]; split <;> simp [assocGet, h]
  | cons a l ih =>
    simp only [assocSet]
    split
    · split
      · rfl
      · rw [assocGet, if_neg h]
    · split
      · next hj =>
        subst hj
        split
        · rw [assocGet, if_neg h]
        · rw [assocGet, assocGet, if_neg h, if_neg h]
      · simp only [assocGet, ih]

end Assoc

/-! ### Bytes and words -/

theorem Word.byte_ofBytes (f : Nat → Byte) (j : Nat) (h : j < 8) : Word.byte (Word.ofBytes f) j = f j := by
  have : j = 0 ∨ j = 1 ∨ j = 2 ∨ j = 3 ∨ j = 4 ∨ j = 5 ∨ j = 6 ∨ j = 7 := by omega
  apply BitVec.eq_of_getLsbD_eq
  intro i hi
  obtain rfl | rfl | rfl | rfl | rfl | rfl | rfl | rfl := this <;>
    simp only [Word.byte, Word.ofBytes, BitVec.getLsbD_extractLsb', BitVec.getLsbD_append, hi] <;>
    (repeat' split) <;> first | omega | (simp; congr 1; omega) | simp

theorem Word.ofBytes_byte (w : Word) : (Word.ofBytes fun j => w.byte j) = w := by
  apply BitVec.eq_of_getLsbD_eq
  intro i hi
  simp only [Word.byte, Word.ofBytes, BitVec.getLsbD_extractLsb', BitVec.getLsbD_append]
  repeat' split
  all_goals first | omega | (rw [decide_eq_true (by omega), Bool.true_and]; congr 1; omega)

/-! ### Memory -/

theorem Memory.wf_iff (m : Memory) :
    m.wf = true ↔ assocWfAbove (0#8) 0 m.cells = true ∧ assocWfAbove EccCondition.correct 0 m.flaws = true := by
  simp [Memory.wf]

theorem Memory.writeByte_wf (m : Memory) (a : Nat) (b : Byte) (w : m.wf = true) : (m.writeByte a b).wf = true := by
  rw [Memory.wf_iff] at *
  exact ⟨assocSet_wf _ _ _ w.1 (Nat.zero_le _), w.2⟩

theorem Memory.readByte_writeByte_other (m : Memory) {a c : Nat} (b : Byte) (h : c ≠ a) :
    (m.writeByte a b).readByte c = m.readByte c := assocGet_set_other _ _ _ h

theorem Memory.readByte_writeByte_same (m : Memory) (a : Nat) (b : Byte) (w : m.wf = true) :
    (m.writeByte a b).readByte a = b := assocGet_set_same _ _ _ ((Memory.wf_iff m).1 w).1

/-- Storing bytes one by one: what a fold of byte writes leaves. -/
theorem Memory.foldl_writeByte (u : Nat) (f : Nat → Byte) (l : List Nat) (m : Memory) (nd : l.Nodup) (w : m.wf = true) :
    let m' := l.foldl (fun m j => m.writeByte (u + j) (f j)) m
    m'.wf = true ∧ m'.flaws = m.flaws ∧ (∀ j ∈ l, m'.readByte (u + j) = f j) ∧
      ∀ a, (∀ j ∈ l, a ≠ u + j) → m'.readByte a = m.readByte a := by
  induction l generalizing m with
  | nil => exact ⟨w, rfl, by simp, fun _ _ => rfl⟩
  | cons k l ih =>
    obtain ⟨hk, nd⟩ := List.nodup_cons.1 nd
    obtain ⟨h1, h2, h3, h4⟩ := ih (m.writeByte (u + k) (f k)) nd (m.writeByte_wf _ _ w)
    refine ⟨h1, h2, ?_, ?_⟩
    · intro j hj
      rcases List.mem_cons.1 hj with rfl | hj
      · rw [List.foldl_cons, h4]
        · exact m.readByte_writeByte_same _ _ w
        · intro i hi e; apply hk; rwa [show j = i by omega]
      · exact h3 j hj
    · intro a ha
      rw [List.foldl_cons, h4 a fun j hj => ha j (List.mem_cons_of_mem _ hj)]
      exact m.readByte_writeByte_other _ (ha k List.mem_cons_self)

theorem Memory.writeWord_spec (m : Memory) (u : Nat) (v : Word) (w : m.wf = true) :
    (m.writeWord u v).wf = true ∧ (m.writeWord u v).flaws = m.flaws ∧
      (∀ j < 8, (m.writeWord u v).readByte (u + j) = v.byte j) ∧
      ∀ a, (a < u ∨ u + 8 ≤ a) → (m.writeWord u v).readByte a = m.readByte a := by
  obtain ⟨h1, h2, h3, h4⟩ := m.foldl_writeByte u v.byte (List.range 8) List.nodup_range w
  exact ⟨h1, h2, fun j hj => h3 j (List.mem_range.2 hj),
    fun a ha => h4 a fun j hj e => by have := List.mem_range.1 hj; omega⟩

theorem Memory.writeUnit_wf (m : Memory) (u : Nat) (v : StoredUnit) (w : m.wf = true) : (m.writeUnit u v).wf = true := by
  obtain ⟨h1, h2, -, -⟩ := m.writeWord_spec u v.data w
  rw [Memory.wf_iff] at *
  exact ⟨h1.1, assocSet_wf _ _ _ w.2 (Nat.zero_le _)⟩

/-- Storing bytes one by one leaves every other byte, in any memory. -/
theorem Memory.foldl_writeByte_other (u : Nat) (f : Nat → Byte) (l : List Nat) (m : Memory) (a : Nat)
    (h : ∀ j ∈ l, a ≠ u + j) : (l.foldl (fun m j => m.writeByte (u + j) (f j)) m).readByte a = m.readByte a := by
  induction l generalizing m with
  | nil => rfl
  | cons k l ih =>
    rw [List.foldl_cons, ih _ fun j hj => h j (List.mem_cons_of_mem _ hj)]
    exact m.readByte_writeByte_other _ (h k List.mem_cons_self)

/-- A byte outside a stored unit reads as before, in any memory. -/
theorem Memory.readByte_writeUnit_other (m : Memory) (u : Nat) (v : StoredUnit) (a : Nat)
    (h : a < u ∨ u + 8 ≤ a) : (m.writeUnit u v).readByte a = m.readByte a :=
  m.foldl_writeByte_other u v.data.byte (List.range 8) a fun j hj e => by have := List.mem_range.1 hj; omega

/-- The condition of another unit is as before. -/
theorem Memory.condition_writeUnit_other (m : Memory) (u : Nat) (v : StoredUnit) {c : Nat} (h : c ≠ u) :
    (m.writeUnit u v).condition c = m.condition c := assocGet_set_other _ _ _ h

/-- A stored unit reads as stored, data and condition. -/
theorem Memory.readUnit_writeUnit (m : Memory) (u : Nat) (v : StoredUnit) (w : m.wf = true) :
    (m.writeUnit u v).readUnit u = v := by
  obtain ⟨-, -, h3, -⟩ := m.writeWord_spec u v.data w
  have hd : (m.writeUnit u v).readWord u = v.data := by
    refine Eq.trans ?_ (Word.ofBytes_byte v.data)
    simp only [Memory.readWord, Word.ofBytes]
    have e (j : Nat) (hj : j < 8) : (m.writeUnit u v).readByte (u + j) = v.data.byte j := h3 j hj
    rw [e 0, e 1, e 2, e 3, e 4, e 5, e 6, e 7] <;> decide
  have hc : (m.writeUnit u v).condition u = v.condition :=
    assocGet_set_same _ _ _ ((Memory.wf_iff m).1 w).2
  cases v
  simp_all [Memory.readUnit]

theorem Memory.initial_wf : Memory.initial.wf = true := rfl

theorem State.reset_mem_wf : State.reset.mem.wf = true := rfl

/-- What reset leaves of the writes in flight keeps the canonical form. -/
theorem reachAll_wf (lost : List Nat) (n : Nat) (l : List Access) (m : Memory) (w : m.wf = true) :
    (reachAll lost n l m).wf = true := by
  induction l generalizing lost n m with
  | nil => exact w
  | cons a l ih =>
    simp only [reachAll]
    split
    · exact ih _ _ _ w
    · split
      · exact ih _ _ _ (m.writeUnit_wf _ _ w)
      · exact ih _ _ _ w

/-- Upsets keep the canonical form. -/
theorem State.applyUpset_wf (u : Nat) (x : Option Upset) (s : State) (w : s.mem.wf = true) :
    (s.applyUpset u x).mem.wf = true := by
  unfold State.applyUpset
  split
  · exact w
  · dsimp only
    split
    · exact w
    · exact Memory.writeUnit_wf _ _ _ w

end Sys2Proof.Machine
end

