-- ==== Sys2Proof/Laws/Port.lean ====
section
/-! SUPPORT. The accesses of the frame store port: picking one in flight, its delivery or completion, and what
the grants and completions leave alone. -/

namespace Sys2Proof.Machine

variable (s : State)

/-! ### Picking -/

/-- The pick of the `n`-th: the list around it, and `n` picked ones before it. -/
theorem pickNth_some {pick : Access → Bool} {n : Nat} {l : List Access} {r : List Access × Access × List Access}
    (h : pickNth pick n l = some r) : l = r.1 ++ r.2.1 :: r.2.2 ∧ pick r.2.1 = true ∧ r.1.countP pick = n := by
  induction l generalizing n r with
  | nil => simp [pickNth] at h
  | cons a l ih =>
    simp only [pickNth] at h
    split at h
    · next ha =>
      split at h
      · simp only [Option.some.injEq] at h; subst h; simp [ha]
      · simp only [Option.map_eq_some_iff] at h
        obtain ⟨q, hq, rfl⟩ := h
        obtain ⟨h1, h2, h3⟩ := ih hq
        exact ⟨by simp [← h1], h2, by simp [List.countP_cons, ha, h3]⟩
    · next ha =>
      simp only [Option.map_eq_some_iff] at h
      obtain ⟨q, hq, rfl⟩ := h
      obtain ⟨h1, h2, h3⟩ := ih hq
      exact ⟨by simp [← h1], h2, by simp [List.countP_cons, ha, h3]⟩

/-- An access with `n` picked ones before it is the `n`-th. -/
theorem pickNth_split (pick : Access → Bool) (before : List Access) (a : Access) (after : List Access)
    (ha : pick a = true) : pickNth pick (before.countP pick) (before ++ a :: after) = some (before, a, after) := by
  induction before with
  | nil => simp [pickNth, ha]
  | cons b l ih =>
    by_cases hb : pick b = true
    · simp [List.countP_cons, hb, pickNth, ih]
    · simp [List.countP_cons, hb, pickNth, ih]

/-! ### Deliveries and completions -/

/-- A delivered read: which access it was and what the state becomes. -/
theorem State.deliverNth_some {s : State} {pick : Job → Bool} {n : Nat} {a : Access} {w : Word} {c : EccCondition}
    {t : State} (h : s.deliverNth pick n = some (a, w, c, t)) :
    ∃ before after, s.port.inFlight = before ++ a :: after ∧ pick a.job = true ∧ a.kind = .read w c ∧
      blockedBy before a.unit = false ∧
      t = (s.onPort fun p => { p with inFlight := before ++ after }).countFound c := by
  unfold State.deliverNth at h
  split at h
  · simp at h
  · next b x y hp =>
    obtain ⟨h1, h2, -⟩ := pickNth_some hp
    simp only [Bool.and_eq_true, Bool.not_eq_true'] at h2
    split at h
    · simp at h
    · next d f hk =>
      split at h
      · simp at h
      · next hb =>
        simp only [Option.some.injEq, Prod.mk.injEq] at h
        obtain ⟨rfl, rfl, rfl, rfl⟩ := h
        exact ⟨_, _, h1, h2.2, hk, by simpa using hb, rfl⟩

theorem State.deliverNth_kept {s : State} {pick : Job → Bool} {n : Nat} {x : Access × Word × EccCondition × State}
    (h : s.deliverNth pick n = some x) : x.2.2.2.kept = s.kept := by
  obtain ⟨a, w, c, t⟩ := x
  obtain ⟨_, _, -, -, -, -, rfl⟩ := State.deliverNth_some h
  rw [State.countFound_kept]; rfl

/-- A completed write: which access it was and what the state becomes. -/
theorem State.landNth_some {s : State} {pick : Job → Bool} {n : Nat} {a : Access} {t : State}
    (h : s.landNth pick n = some (a, t)) :
    ∃ before after unit found, s.port.inFlight = before ++ a :: after ∧ pick a.job = true ∧
      a.kind = .write unit found ∧ blockedBy before a.unit = false ∧
      t = ((s.setMem (s.mem.writeUnit a.unit unit)).onPort fun p =>
        { p with inFlight := (before.filter fun e => !e.writesTo a.unit) ++ after }).countFound
        (found.getD .correct) := by
  unfold State.landNth at h
  split at h
  · simp at h
  · next b x y hp =>
    obtain ⟨h1, h2, -⟩ := pickNth_some hp
    simp only [Bool.and_eq_true] at h2
    split at h
    · simp at h
    · next u f hk =>
      split at h
      · simp at h
      · next hb =>
        simp only [Option.some.injEq, Prod.mk.injEq] at h
        obtain ⟨rfl, rfl⟩ := h
        exact ⟨_, _, _, _, h1, h2.2, hk, by simpa using hb, rfl⟩

/-- A completed write changes, of the fields most operations keep, the frame store alone, by one unit. -/
theorem State.landNth_kept {s : State} {pick : Job → Bool} {n : Nat} {x : Access × State}
    (h : s.landNth pick n = some x) : ∃ unit, x.2.kept = { s.kept with mem := s.mem.writeUnit x.1.unit unit } := by
  obtain ⟨a, t⟩ := x
  obtain ⟨_, _, unit, _, -, -, -, -, rfl⟩ := State.landNth_some h
  exact ⟨unit, by rw [State.countFound_kept]; rfl⟩

/-- The writes that complete ahead of a read's delivery change, of the fields most operations keep, the frame store
alone, and keep its canonical form. -/
theorem State.landBefore_kept (pick : Job → Bool) (n : Nat) :
    (s.landBefore pick n).kept = { s.kept with mem := (s.landBefore pick n).mem } ∧
      (s.mem.wf = true → (s.landBefore pick n).mem.wf = true) := by
  unfold State.landBefore
  split
  · exact ⟨rfl, id⟩
  · split
    · exact ⟨rfl, id⟩
    · exact ⟨rfl, fun w => Memory.writeUnit_wf _ _ _ w⟩

/-- A read with no earlier write of its unit in flight finds nothing to complete. -/
theorem State.landBefore_none {s : State} {pick : Job → Bool} {before after : List Access} {a : Access}
    (hs : s.port.inFlight = before ++ a :: after) (ha : a.isWrite = false) (hp : pick a.job = true)
    (hw : ∀ e ∈ before, e.writesTo a.unit = false) :
    s.landBefore pick (before.countP fun a => !a.isWrite && pick a.job) = s := by
  unfold State.landBefore
  rw [hs, pickNth_split (fun a => !a.isWrite && pick a.job) before a after (by simp [ha, hp])]
  have : (before.any fun e => e.writesTo a.unit) = false := by simpa using hw
  simp [this]

@[simp] theorem State.deliverAll_kept (pick : Job → Bool) : (s.deliverAll pick).2.kept = s.kept := by
  unfold State.deliverAll
  refine (foldl_kept _ ?_ _ _).trans rfl
  intros; simp

/-- Completions of many writes keep everything but the frame store, and its canonical form. -/
theorem State.landAll_kept (pick : Job → Bool) (n : Nat) (w : s.mem.wf = true) :
    (s.landAll pick n).kept = { s.kept with mem := (s.landAll pick n).mem } ∧ (s.landAll pick n).mem.wf = true := by
  induction n generalizing s with
  | zero => exact ⟨rfl, w⟩
  | succ n ih =>
    simp only [State.landAll]
    split
    · exact ⟨rfl, w⟩
    · next a t ht =>
      obtain ⟨unit, hu⟩ := State.landNth_kept ht
      have hm : t.mem = s.mem.writeUnit a.unit unit := congrArg Kept.mem hu
      obtain ⟨h1, h2⟩ := ih t (hm ▸ Memory.writeUnit_wf _ _ _ w)
      refine ⟨?_, h2⟩
      rw [h1, hu]

@[simp] theorem State.readDone_kept (a : ActivationRead) : (s.readDone a).kept = s.kept := by
  unfold State.readDone
  simp only [State.expoAsk_kept]
  repeat' split
  all_goals simp

@[simp] theorem State.recordRead_kept (q : Request) : (s.recordRead q).kept = s.kept := by
  unfold State.recordRead
  simp only []
  repeat' split
  all_goals simp

/-! ### The grant -/

theorem fairnessAfter_le (count rank : Nat) (w : Bool) (h : count ≤ Config.fairLimit) :
    fairnessAfter count rank w ≤ Config.fairLimit := by
  unfold fairnessAfter
  repeat' split
  all_goals first | exact h | exact Nat.zero_le _ | exact Nat.min_le_right _ _

/-- Upsets change, of the fields most operations keep, the frame store alone. -/
theorem State.applyUpset_kept (u : Nat) (x : Option Upset) :
    (s.applyUpset u x).kept = { s.kept with mem := (s.applyUpset u x).mem } := by
  unfold State.applyUpset
  split
  · rfl
  · dsimp only
    split <;> rfl

/-- Without an upset nothing changes. -/
@[simp] theorem State.applyUpset_none (u : Nat) : s.applyUpset u none = s := rfl

/-- A grant changes, of the fields most operations keep, the fairness count alone (R184). -/
theorem State.granted_kept (a : Ask) :
    (s.granted a).kept = { s.kept with fairness := (s.granted a).port.fairness } := rfl

end Sys2Proof.Machine
end

