-- ==== Sys2Proof/Laws/Shared.lean ====
section
/-! SUPPORT. What each shared operation leaves as it was, field by field. -/

namespace Sys2Proof.Machine

variable (s : State)

@[simp] theorem State.raise_pending (c : Cause) : (s.raise c).pending = s.pending := by
  unfold State.raise; split <;> rfl
@[simp] theorem State.raise_inReset (c : Cause) : (s.raise c).inReset = s.inReset := by
  unfold State.raise; split <;> rfl
@[simp] theorem State.raise_straps (c : Cause) : (s.raise c).straps = s.straps := by
  unfold State.raise; split <;> rfl
@[simp] theorem State.raise_part (c : Cause) : (s.raise c).part = s.part := by
  unfold State.raise; split <;> rfl
@[simp] theorem State.raise_mem (c : Cause) : (s.raise c).mem = s.mem := by
  unfold State.raise; split <;> rfl
@[simp] theorem State.raise_bus (c : Cause) : (s.raise c).bus = s.bus := by
  unfold State.raise; split <;> rfl
@[simp] theorem State.raise_capture (c : Cause) : (s.raise c).capture = s.capture := by
  unfold State.raise; split <;> rfl
@[simp] theorem State.raise_fetch (c : Cause) : (s.raise c).fetch = s.fetch := by
  unfold State.raise; split <;> rfl
@[simp] theorem State.raise_pipe (c : Cause) : (s.raise c).pipe = s.pipe := by
  unfold State.raise; split <;> rfl
@[simp] theorem State.raise_merge (c : Cause) : (s.raise c).merge = s.merge := by
  unfold State.raise; split <;> rfl
@[simp] theorem State.raise_expo (c : Cause) : (s.raise c).expo = s.expo := by
  unfold State.raise; split <;> rfl
@[simp] theorem State.raise_prod (c : Cause) : (s.raise c).prod = s.prod := by
  unfold State.raise; split <;> rfl
@[simp] theorem State.raise_loader (c : Cause) : (s.raise c).loader = s.loader := by
  unfold State.raise; split <;> rfl
@[simp] theorem State.raise_port (c : Cause) : (s.raise c).port = s.port := by
  unfold State.raise; split <;> rfl
@[simp] theorem State.raise_freeCount (c : Cause) : (s.raise c).freeCount = s.freeCount := by
  unfold State.raise; split <;> rfl

@[simp] theorem State.countFound_pending (c : EccCondition) : (s.countFound c).pending = s.pending := by
  unfold State.countFound; split
  · rfl
  · cases c <;> simp
@[simp] theorem State.countFound_inReset (c : EccCondition) : (s.countFound c).inReset = s.inReset := by
  unfold State.countFound; split
  · rfl
  · cases c <;> simp
@[simp] theorem State.countFound_straps (c : EccCondition) : (s.countFound c).straps = s.straps := by
  unfold State.countFound; split
  · rfl
  · cases c <;> simp
@[simp] theorem State.countFound_part (c : EccCondition) : (s.countFound c).part = s.part := by
  unfold State.countFound; split
  · rfl
  · cases c <;> simp
@[simp] theorem State.countFound_mem (c : EccCondition) : (s.countFound c).mem = s.mem := by
  unfold State.countFound; split
  · rfl
  · cases c <;> simp
@[simp] theorem State.countFound_bus (c : EccCondition) : (s.countFound c).bus = s.bus := by
  unfold State.countFound; split
  · rfl
  · cases c <;> simp
@[simp] theorem State.countFound_capture (c : EccCondition) : (s.countFound c).capture = s.capture := by
  unfold State.countFound; split
  · rfl
  · cases c <;> simp
@[simp] theorem State.countFound_fetch (c : EccCondition) : (s.countFound c).fetch = s.fetch := by
  unfold State.countFound; split
  · rfl
  · cases c <;> simp
@[simp] theorem State.countFound_pipe (c : EccCondition) : (s.countFound c).pipe = s.pipe := by
  unfold State.countFound; split
  · rfl
  · cases c <;> simp
@[simp] theorem State.countFound_merge (c : EccCondition) : (s.countFound c).merge = s.merge := by
  unfold State.countFound; split
  · rfl
  · cases c <;> simp
@[simp] theorem State.countFound_expo (c : EccCondition) : (s.countFound c).expo = s.expo := by
  unfold State.countFound; split
  · rfl
  · cases c <;> simp
@[simp] theorem State.countFound_prod (c : EccCondition) : (s.countFound c).prod = s.prod := by
  unfold State.countFound; split
  · rfl
  · cases c <;> simp
@[simp] theorem State.countFound_loader (c : EccCondition) : (s.countFound c).loader = s.loader := by
  unfold State.countFound; split
  · rfl
  · cases c <;> simp
@[simp] theorem State.countFound_freeCount (c : EccCondition) : (s.countFound c).freeCount = s.freeCount := by
  unfold State.countFound; split
  · rfl
  · cases c <;> simp

@[simp] theorem State.reply_pending (o : ReplyOutcome) (d : Detail) : (s.reply o d).pending = s.pending := by
  unfold State.reply; split <;> rfl
@[simp] theorem State.reply_inReset (o : ReplyOutcome) (d : Detail) : (s.reply o d).inReset = s.inReset := by
  unfold State.reply; split <;> rfl
@[simp] theorem State.reply_straps (o : ReplyOutcome) (d : Detail) : (s.reply o d).straps = s.straps := by
  unfold State.reply; split <;> rfl
@[simp] theorem State.reply_part (o : ReplyOutcome) (d : Detail) : (s.reply o d).part = s.part := by
  unfold State.reply; split <;> rfl
@[simp] theorem State.reply_mem (o : ReplyOutcome) (d : Detail) : (s.reply o d).mem = s.mem := by
  unfold State.reply; split <;> rfl
@[simp] theorem State.reply_capture (o : ReplyOutcome) (d : Detail) : (s.reply o d).capture = s.capture := by
  unfold State.reply; split <;> rfl
@[simp] theorem State.reply_fetch (o : ReplyOutcome) (d : Detail) : (s.reply o d).fetch = s.fetch := by
  unfold State.reply; split <;> rfl
@[simp] theorem State.reply_pipe (o : ReplyOutcome) (d : Detail) : (s.reply o d).pipe = s.pipe := by
  unfold State.reply; split <;> rfl
@[simp] theorem State.reply_merge (o : ReplyOutcome) (d : Detail) : (s.reply o d).merge = s.merge := by
  unfold State.reply; split <;> rfl
@[simp] theorem State.reply_expo (o : ReplyOutcome) (d : Detail) : (s.reply o d).expo = s.expo := by
  unfold State.reply; split <;> rfl
@[simp] theorem State.reply_prod (o : ReplyOutcome) (d : Detail) : (s.reply o d).prod = s.prod := by
  unfold State.reply; split <;> rfl
@[simp] theorem State.reply_loader (o : ReplyOutcome) (d : Detail) : (s.reply o d).loader = s.loader := by
  unfold State.reply; split <;> rfl
@[simp] theorem State.reply_port (o : ReplyOutcome) (d : Detail) : (s.reply o d).port = s.port := by
  unfold State.reply; split <;> rfl
@[simp] theorem State.reply_freeCount (o : ReplyOutcome) (d : Detail) : (s.reply o d).freeCount = s.freeCount := by
  unfold State.reply; split <;> rfl

@[simp] theorem State.respond_pending (b : BusBeat) (a : Answer) : (s.respond b a).pending = s.pending := rfl
@[simp] theorem State.respond_inReset (b : BusBeat) (a : Answer) : (s.respond b a).inReset = s.inReset := rfl
@[simp] theorem State.respond_straps (b : BusBeat) (a : Answer) : (s.respond b a).straps = s.straps := rfl
@[simp] theorem State.respond_part (b : BusBeat) (a : Answer) : (s.respond b a).part = s.part := rfl
@[simp] theorem State.respond_mem (b : BusBeat) (a : Answer) : (s.respond b a).mem = s.mem := rfl
@[simp] theorem State.respond_capture (b : BusBeat) (a : Answer) : (s.respond b a).capture = s.capture := rfl
@[simp] theorem State.respond_fetch (b : BusBeat) (a : Answer) : (s.respond b a).fetch = s.fetch := rfl
@[simp] theorem State.respond_pipe (b : BusBeat) (a : Answer) : (s.respond b a).pipe = s.pipe := rfl
@[simp] theorem State.respond_merge (b : BusBeat) (a : Answer) : (s.respond b a).merge = s.merge := rfl
@[simp] theorem State.respond_expo (b : BusBeat) (a : Answer) : (s.respond b a).expo = s.expo := rfl
@[simp] theorem State.respond_prod (b : BusBeat) (a : Answer) : (s.respond b a).prod = s.prod := rfl
@[simp] theorem State.respond_loader (b : BusBeat) (a : Answer) : (s.respond b a).loader = s.loader := rfl
@[simp] theorem State.respond_notice (b : BusBeat) (a : Answer) : (s.respond b a).notice = s.notice := rfl
@[simp] theorem State.respond_port (b : BusBeat) (a : Answer) : (s.respond b a).port = s.port := rfl
@[simp] theorem State.respond_freeCount (b : BusBeat) (a : Answer) : (s.respond b a).freeCount = s.freeCount := rfl

@[simp] theorem State.ask_pending (a : Ask) : (s.ask a).pending = s.pending := rfl
@[simp] theorem State.ask_inReset (a : Ask) : (s.ask a).inReset = s.inReset := rfl
@[simp] theorem State.ask_straps (a : Ask) : (s.ask a).straps = s.straps := rfl
@[simp] theorem State.ask_part (a : Ask) : (s.ask a).part = s.part := rfl
@[simp] theorem State.ask_mem (a : Ask) : (s.ask a).mem = s.mem := rfl
@[simp] theorem State.ask_bus (a : Ask) : (s.ask a).bus = s.bus := rfl
@[simp] theorem State.ask_capture (a : Ask) : (s.ask a).capture = s.capture := rfl
@[simp] theorem State.ask_fetch (a : Ask) : (s.ask a).fetch = s.fetch := rfl
@[simp] theorem State.ask_pipe (a : Ask) : (s.ask a).pipe = s.pipe := rfl
@[simp] theorem State.ask_merge (a : Ask) : (s.ask a).merge = s.merge := rfl
@[simp] theorem State.ask_expo (a : Ask) : (s.ask a).expo = s.expo := rfl
@[simp] theorem State.ask_prod (a : Ask) : (s.ask a).prod = s.prod := rfl
@[simp] theorem State.ask_loader (a : Ask) : (s.ask a).loader = s.loader := rfl
@[simp] theorem State.ask_notice (a : Ask) : (s.ask a).notice = s.notice := rfl
@[simp] theorem State.ask_freeCount (a : Ask) : (s.ask a).freeCount = s.freeCount := rfl

@[simp] theorem State.withdraw_pending (p : Job → Bool) : (s.withdraw p).pending = s.pending := rfl
@[simp] theorem State.withdraw_inReset (p : Job → Bool) : (s.withdraw p).inReset = s.inReset := rfl
@[simp] theorem State.withdraw_straps (p : Job → Bool) : (s.withdraw p).straps = s.straps := rfl
@[simp] theorem State.withdraw_part (p : Job → Bool) : (s.withdraw p).part = s.part := rfl
@[simp] theorem State.withdraw_mem (p : Job → Bool) : (s.withdraw p).mem = s.mem := rfl
@[simp] theorem State.withdraw_bus (p : Job → Bool) : (s.withdraw p).bus = s.bus := rfl
@[simp] theorem State.withdraw_capture (p : Job → Bool) : (s.withdraw p).capture = s.capture := rfl
@[simp] theorem State.withdraw_fetch (p : Job → Bool) : (s.withdraw p).fetch = s.fetch := rfl
@[simp] theorem State.withdraw_pipe (p : Job → Bool) : (s.withdraw p).pipe = s.pipe := rfl
@[simp] theorem State.withdraw_merge (p : Job → Bool) : (s.withdraw p).merge = s.merge := rfl
@[simp] theorem State.withdraw_expo (p : Job → Bool) : (s.withdraw p).expo = s.expo := rfl
@[simp] theorem State.withdraw_prod (p : Job → Bool) : (s.withdraw p).prod = s.prod := rfl
@[simp] theorem State.withdraw_loader (p : Job → Bool) : (s.withdraw p).loader = s.loader := rfl
@[simp] theorem State.withdraw_notice (p : Job → Bool) : (s.withdraw p).notice = s.notice := rfl
@[simp] theorem State.withdraw_freeCount (p : Job → Bool) : (s.withdraw p).freeCount = s.freeCount := rfl

@[simp] theorem State.setEntry_pending (i : Nat) (v : Option Entry) : (s.setEntry i v).pending = s.pending := rfl
@[simp] theorem State.setEntry_inReset (i : Nat) (v : Option Entry) : (s.setEntry i v).inReset = s.inReset := rfl
@[simp] theorem State.setEntry_straps (i : Nat) (v : Option Entry) : (s.setEntry i v).straps = s.straps := rfl
@[simp] theorem State.setEntry_part (i : Nat) (v : Option Entry) : (s.setEntry i v).part = s.part := rfl
@[simp] theorem State.setEntry_mem (i : Nat) (v : Option Entry) : (s.setEntry i v).mem = s.mem := rfl
@[simp] theorem State.setEntry_bus (i : Nat) (v : Option Entry) : (s.setEntry i v).bus = s.bus := rfl
@[simp] theorem State.setEntry_capture (i : Nat) (v : Option Entry) : (s.setEntry i v).capture = s.capture := rfl
@[simp] theorem State.setEntry_fetch (i : Nat) (v : Option Entry) : (s.setEntry i v).fetch = s.fetch := rfl
@[simp] theorem State.setEntry_pipe (i : Nat) (v : Option Entry) : (s.setEntry i v).pipe = s.pipe := rfl
@[simp] theorem State.setEntry_expo (i : Nat) (v : Option Entry) : (s.setEntry i v).expo = s.expo := rfl
@[simp] theorem State.setEntry_prod (i : Nat) (v : Option Entry) : (s.setEntry i v).prod = s.prod := rfl
@[simp] theorem State.setEntry_loader (i : Nat) (v : Option Entry) : (s.setEntry i v).loader = s.loader := rfl
@[simp] theorem State.setEntry_notice (i : Nat) (v : Option Entry) : (s.setEntry i v).notice = s.notice := rfl
@[simp] theorem State.setEntry_port (i : Nat) (v : Option Entry) : (s.setEntry i v).port = s.port := rfl
@[simp] theorem State.setEntry_freeCount (i : Nat) (v : Option Entry) : (s.setEntry i v).freeCount = s.freeCount := rfl

@[simp] theorem State.setSlot_pending (i : Nat) (v : Slot) : (s.setSlot i v).pending = s.pending := rfl
@[simp] theorem State.setSlot_inReset (i : Nat) (v : Slot) : (s.setSlot i v).inReset = s.inReset := rfl
@[simp] theorem State.setSlot_straps (i : Nat) (v : Slot) : (s.setSlot i v).straps = s.straps := rfl
@[simp] theorem State.setSlot_part (i : Nat) (v : Slot) : (s.setSlot i v).part = s.part := rfl
@[simp] theorem State.setSlot_mem (i : Nat) (v : Slot) : (s.setSlot i v).mem = s.mem := rfl
@[simp] theorem State.setSlot_bus (i : Nat) (v : Slot) : (s.setSlot i v).bus = s.bus := rfl
@[simp] theorem State.setSlot_fetch (i : Nat) (v : Slot) : (s.setSlot i v).fetch = s.fetch := rfl
@[simp] theorem State.setSlot_pipe (i : Nat) (v : Slot) : (s.setSlot i v).pipe = s.pipe := rfl
@[simp] theorem State.setSlot_merge (i : Nat) (v : Slot) : (s.setSlot i v).merge = s.merge := rfl
@[simp] theorem State.setSlot_expo (i : Nat) (v : Slot) : (s.setSlot i v).expo = s.expo := rfl
@[simp] theorem State.setSlot_prod (i : Nat) (v : Slot) : (s.setSlot i v).prod = s.prod := rfl
@[simp] theorem State.setSlot_loader (i : Nat) (v : Slot) : (s.setSlot i v).loader = s.loader := rfl
@[simp] theorem State.setSlot_notice (i : Nat) (v : Slot) : (s.setSlot i v).notice = s.notice := rfl
@[simp] theorem State.setSlot_port (i : Nat) (v : Slot) : (s.setSlot i v).port = s.port := rfl
@[simp] theorem State.setSlot_freeCount (i : Nat) (v : Slot) : (s.setSlot i v).freeCount = s.freeCount := rfl

@[simp] theorem State.setProduct_pending (p : Nat) (v : Product) : (s.setProduct p v).pending = s.pending := rfl
@[simp] theorem State.setProduct_inReset (p : Nat) (v : Product) : (s.setProduct p v).inReset = s.inReset := rfl
@[simp] theorem State.setProduct_straps (p : Nat) (v : Product) : (s.setProduct p v).straps = s.straps := rfl
@[simp] theorem State.setProduct_part (p : Nat) (v : Product) : (s.setProduct p v).part = s.part := rfl
@[simp] theorem State.setProduct_mem (p : Nat) (v : Product) : (s.setProduct p v).mem = s.mem := rfl
@[simp] theorem State.setProduct_bus (p : Nat) (v : Product) : (s.setProduct p v).bus = s.bus := rfl
@[simp] theorem State.setProduct_capture (p : Nat) (v : Product) : (s.setProduct p v).capture = s.capture := rfl
@[simp] theorem State.setProduct_fetch (p : Nat) (v : Product) : (s.setProduct p v).fetch = s.fetch := rfl
@[simp] theorem State.setProduct_pipe (p : Nat) (v : Product) : (s.setProduct p v).pipe = s.pipe := rfl
@[simp] theorem State.setProduct_merge (p : Nat) (v : Product) : (s.setProduct p v).merge = s.merge := rfl
@[simp] theorem State.setProduct_expo (p : Nat) (v : Product) : (s.setProduct p v).expo = s.expo := rfl
@[simp] theorem State.setProduct_loader (p : Nat) (v : Product) : (s.setProduct p v).loader = s.loader := rfl
@[simp] theorem State.setProduct_notice (p : Nat) (v : Product) : (s.setProduct p v).notice = s.notice := rfl
@[simp] theorem State.setProduct_port (p : Nat) (v : Product) : (s.setProduct p v).port = s.port := rfl
@[simp] theorem State.setProduct_freeCount (p : Nat) (v : Product) : (s.setProduct p v).freeCount = s.freeCount := rfl

@[simp] theorem State.touch_pending (i : Nat) : (s.touch i).pending = s.pending := rfl
@[simp] theorem State.touch_inReset (i : Nat) : (s.touch i).inReset = s.inReset := rfl
@[simp] theorem State.touch_straps (i : Nat) : (s.touch i).straps = s.straps := rfl
@[simp] theorem State.touch_part (i : Nat) : (s.touch i).part = s.part := rfl
@[simp] theorem State.touch_mem (i : Nat) : (s.touch i).mem = s.mem := rfl
@[simp] theorem State.touch_bus (i : Nat) : (s.touch i).bus = s.bus := rfl
@[simp] theorem State.touch_capture (i : Nat) : (s.touch i).capture = s.capture := rfl
@[simp] theorem State.touch_fetch (i : Nat) : (s.touch i).fetch = s.fetch := rfl
@[simp] theorem State.touch_pipe (i : Nat) : (s.touch i).pipe = s.pipe := rfl
@[simp] theorem State.touch_expo (i : Nat) : (s.touch i).expo = s.expo := rfl
@[simp] theorem State.touch_prod (i : Nat) : (s.touch i).prod = s.prod := rfl
@[simp] theorem State.touch_loader (i : Nat) : (s.touch i).loader = s.loader := rfl
@[simp] theorem State.touch_notice (i : Nat) : (s.touch i).notice = s.notice := rfl
@[simp] theorem State.touch_port (i : Nat) : (s.touch i).port = s.port := rfl
@[simp] theorem State.touch_freeCount (i : Nat) : (s.touch i).freeCount = s.freeCount := rfl

@[simp] theorem State.dropEntry_pending (i : Nat) : (s.dropEntry i).pending = s.pending := rfl
@[simp] theorem State.dropEntry_inReset (i : Nat) : (s.dropEntry i).inReset = s.inReset := rfl
@[simp] theorem State.dropEntry_straps (i : Nat) : (s.dropEntry i).straps = s.straps := rfl
@[simp] theorem State.dropEntry_part (i : Nat) : (s.dropEntry i).part = s.part := rfl
@[simp] theorem State.dropEntry_mem (i : Nat) : (s.dropEntry i).mem = s.mem := rfl
@[simp] theorem State.dropEntry_bus (i : Nat) : (s.dropEntry i).bus = s.bus := rfl
@[simp] theorem State.dropEntry_capture (i : Nat) : (s.dropEntry i).capture = s.capture := rfl
@[simp] theorem State.dropEntry_fetch (i : Nat) : (s.dropEntry i).fetch = s.fetch := rfl
@[simp] theorem State.dropEntry_pipe (i : Nat) : (s.dropEntry i).pipe = s.pipe := rfl
@[simp] theorem State.dropEntry_expo (i : Nat) : (s.dropEntry i).expo = s.expo := rfl
@[simp] theorem State.dropEntry_prod (i : Nat) : (s.dropEntry i).prod = s.prod := rfl
@[simp] theorem State.dropEntry_loader (i : Nat) : (s.dropEntry i).loader = s.loader := rfl
@[simp] theorem State.dropEntry_notice (i : Nat) : (s.dropEntry i).notice = s.notice := rfl
@[simp] theorem State.dropEntry_freeCount (i : Nat) : (s.dropEntry i).freeCount = s.freeCount := rfl

@[simp] theorem State.onRecord_pending (k : Nat) (f : ExposureRecord → ExposureRecord) : (s.onRecord k f).pending = s.pending := rfl
@[simp] theorem State.onRecord_inReset (k : Nat) (f : ExposureRecord → ExposureRecord) : (s.onRecord k f).inReset = s.inReset := rfl
@[simp] theorem State.onRecord_straps (k : Nat) (f : ExposureRecord → ExposureRecord) : (s.onRecord k f).straps = s.straps := rfl
@[simp] theorem State.onRecord_part (k : Nat) (f : ExposureRecord → ExposureRecord) : (s.onRecord k f).part = s.part := rfl
@[simp] theorem State.onRecord_mem (k : Nat) (f : ExposureRecord → ExposureRecord) : (s.onRecord k f).mem = s.mem := rfl
@[simp] theorem State.onRecord_bus (k : Nat) (f : ExposureRecord → ExposureRecord) : (s.onRecord k f).bus = s.bus := rfl
@[simp] theorem State.onRecord_capture (k : Nat) (f : ExposureRecord → ExposureRecord) : (s.onRecord k f).capture = s.capture := rfl
@[simp] theorem State.onRecord_fetch (k : Nat) (f : ExposureRecord → ExposureRecord) : (s.onRecord k f).fetch = s.fetch := rfl
@[simp] theorem State.onRecord_pipe (k : Nat) (f : ExposureRecord → ExposureRecord) : (s.onRecord k f).pipe = s.pipe := rfl
@[simp] theorem State.onRecord_merge (k : Nat) (f : ExposureRecord → ExposureRecord) : (s.onRecord k f).merge = s.merge := rfl
@[simp] theorem State.onRecord_prod (k : Nat) (f : ExposureRecord → ExposureRecord) : (s.onRecord k f).prod = s.prod := rfl
@[simp] theorem State.onRecord_loader (k : Nat) (f : ExposureRecord → ExposureRecord) : (s.onRecord k f).loader = s.loader := rfl
@[simp] theorem State.onRecord_notice (k : Nat) (f : ExposureRecord → ExposureRecord) : (s.onRecord k f).notice = s.notice := rfl
@[simp] theorem State.onRecord_port (k : Nat) (f : ExposureRecord → ExposureRecord) : (s.onRecord k f).port = s.port := rfl
@[simp] theorem State.onRecord_freeCount (k : Nat) (f : ExposureRecord → ExposureRecord) : (s.onRecord k f).freeCount = s.freeCount := rfl

@[simp] theorem State.keepInHand_pending (k : Nat) : (s.keepInHand k).pending = s.pending := rfl
@[simp] theorem State.keepInHand_inReset (k : Nat) : (s.keepInHand k).inReset = s.inReset := rfl
@[simp] theorem State.keepInHand_straps (k : Nat) : (s.keepInHand k).straps = s.straps := rfl
@[simp] theorem State.keepInHand_part (k : Nat) : (s.keepInHand k).part = s.part := rfl
@[simp] theorem State.keepInHand_mem (k : Nat) : (s.keepInHand k).mem = s.mem := rfl
@[simp] theorem State.keepInHand_capture (k : Nat) : (s.keepInHand k).capture = s.capture := rfl
@[simp] theorem State.keepInHand_fetch (k : Nat) : (s.keepInHand k).fetch = s.fetch := rfl
@[simp] theorem State.keepInHand_pipe (k : Nat) : (s.keepInHand k).pipe = s.pipe := rfl
@[simp] theorem State.keepInHand_merge (k : Nat) : (s.keepInHand k).merge = s.merge := rfl
@[simp] theorem State.keepInHand_expo (k : Nat) : (s.keepInHand k).expo = s.expo := rfl
@[simp] theorem State.keepInHand_prod (k : Nat) : (s.keepInHand k).prod = s.prod := rfl
@[simp] theorem State.keepInHand_loader (k : Nat) : (s.keepInHand k).loader = s.loader := rfl
@[simp] theorem State.keepInHand_notice (k : Nat) : (s.keepInHand k).notice = s.notice := rfl
@[simp] theorem State.keepInHand_port (k : Nat) : (s.keepInHand k).port = s.port := rfl
@[simp] theorem State.keepInHand_freeCount (k : Nat) : (s.keepInHand k).freeCount = s.freeCount := rfl

@[simp] theorem State.setWaiting_pending (w : Option (Pixel × Waiting)) : (s.setWaiting w).pending = s.pending := rfl
@[simp] theorem State.setWaiting_inReset (w : Option (Pixel × Waiting)) : (s.setWaiting w).inReset = s.inReset := rfl
@[simp] theorem State.setWaiting_straps (w : Option (Pixel × Waiting)) : (s.setWaiting w).straps = s.straps := rfl
@[simp] theorem State.setWaiting_part (w : Option (Pixel × Waiting)) : (s.setWaiting w).part = s.part := rfl
@[simp] theorem State.setWaiting_mem (w : Option (Pixel × Waiting)) : (s.setWaiting w).mem = s.mem := rfl
@[simp] theorem State.setWaiting_bus (w : Option (Pixel × Waiting)) : (s.setWaiting w).bus = s.bus := rfl
@[simp] theorem State.setWaiting_capture (w : Option (Pixel × Waiting)) : (s.setWaiting w).capture = s.capture := rfl
@[simp] theorem State.setWaiting_fetch (w : Option (Pixel × Waiting)) : (s.setWaiting w).fetch = s.fetch := rfl
@[simp] theorem State.setWaiting_merge (w : Option (Pixel × Waiting)) : (s.setWaiting w).merge = s.merge := rfl
@[simp] theorem State.setWaiting_expo (w : Option (Pixel × Waiting)) : (s.setWaiting w).expo = s.expo := rfl
@[simp] theorem State.setWaiting_prod (w : Option (Pixel × Waiting)) : (s.setWaiting w).prod = s.prod := rfl
@[simp] theorem State.setWaiting_loader (w : Option (Pixel × Waiting)) : (s.setWaiting w).loader = s.loader := rfl
@[simp] theorem State.setWaiting_notice (w : Option (Pixel × Waiting)) : (s.setWaiting w).notice = s.notice := rfl
@[simp] theorem State.setWaiting_port (w : Option (Pixel × Waiting)) : (s.setWaiting w).port = s.port := rfl
@[simp] theorem State.setWaiting_freeCount (w : Option (Pixel × Waiting)) : (s.setWaiting w).freeCount = s.freeCount := rfl

@[simp] theorem State.endLock_pending : (s.endLock).pending = s.pending := rfl
@[simp] theorem State.endLock_inReset : (s.endLock).inReset = s.inReset := rfl
@[simp] theorem State.endLock_straps : (s.endLock).straps = s.straps := rfl
@[simp] theorem State.endLock_part : (s.endLock).part = s.part := rfl
@[simp] theorem State.endLock_mem : (s.endLock).mem = s.mem := rfl
@[simp] theorem State.endLock_capture : (s.endLock).capture = s.capture := rfl
@[simp] theorem State.endLock_fetch : (s.endLock).fetch = s.fetch := rfl
@[simp] theorem State.endLock_pipe : (s.endLock).pipe = s.pipe := rfl
@[simp] theorem State.endLock_merge : (s.endLock).merge = s.merge := rfl
@[simp] theorem State.endLock_expo : (s.endLock).expo = s.expo := rfl
@[simp] theorem State.endLock_prod : (s.endLock).prod = s.prod := rfl
@[simp] theorem State.endLock_loader : (s.endLock).loader = s.loader := rfl
@[simp] theorem State.endLock_notice : (s.endLock).notice = s.notice := rfl
@[simp] theorem State.endLock_freeCount : (s.endLock).freeCount = s.freeCount := rfl

end Sys2Proof.Machine
end

