-- ==== Sys2Proof/Laws/Access.lean ====
section
/-! SUPPORT. What a beat that is taken at its arrival does, and what a delivery and a completion answer: one lemma
for each, in the terms the statements are made in. -/

namespace Sys2Proof.Machine

/-- The delivery of a read. -/
theorem State.Delivers.deliverNth {s : State} {pick : Job → Bool} {which : Nat} {job : Job} {unit : Nat}
    {data : Word} {found : EccCondition} {rest : List Access}
    (h : s.Delivers pick which job unit data found rest) :
    s.deliverNth pick which = some (⟨job, unit, .read data found⟩, data, found, s.delivered found rest) := by
  obtain ⟨_, hp, before, after, h1, h2, h4, h3⟩ := h
  unfold State.deliverNth
  rw [h1, ← h2, pickNth_split (fun a => !a.isWrite && pick a.job) before _ after (by simp [Access.isWrite, hp])]
  simp [State.delivered, h3, h4]

/-- The completion of a write. -/
theorem State.Completes.landNth {s : State} {pick : Job → Bool} {which : Nat} {job : Job} {unit : Nat}
    {after : StoredUnit} {found : Option EccCondition} {rest : List Access}
    (h : s.Completes pick which job unit after found rest) :
    s.landNth pick which = some (⟨job, unit, .write after found⟩, s.landed unit after found rest) := by
  obtain ⟨_, hp, before, later, h1, h2, h3, h4⟩ := h
  unfold State.landNth
  rw [h1, ← h2, pickNth_split (fun a => a.isWrite && pick a.job) before _ later (by simp [Access.isWrite, hp])]
  simp [State.landed, h3, h4]

/-- A completing bus write that takes no control word waits for no other of its burst (R174). -/
theorem State.Completes.wordBlocked {s : State} {pick : Job → Bool} {which unit : Nat} {b : BusBeat} {ready : Bool}
    {after : StoredUnit} {found : Option EccCondition} {rest : List Access}
    (h : s.Completes pick which (.busWrite b ready) unit after found rest) (hw : s.takesWord b = false) :
    s.wordBlocked pick which = false := by
  obtain ⟨_, hp, before, later, h1, h2, _, _⟩ := h
  unfold State.wordBlocked
  rw [h1, ← h2, pickNth_split (fun a => a.isWrite && pick a.job) before _ later (by simp [Access.isWrite, hp])]
  simp [State.wordWaits, hw]

/-- A bus write that is not blocked by its burst completes: it lands, and its store is done (R174, R186). -/
theorem State.Completes.busWriteEvent {s : State} {pick : Job → Bool} {which unit : Nat} {b : BusBeat} {ready : Bool}
    {after : StoredUnit} {found : Option EccCondition} {rest : List Access}
    (h : s.Completes (fun j => isBusWrite j && pick j) which (.busWrite b ready) unit after found rest)
    (hw : s.wordBlocked (fun j => isBusWrite j && pick j) which = false) :
    s.busWriteEvent pick which = some ((s.landed unit after found rest).storeDone b) := by
  simp [State.busWriteEvent, hw, h.landNth]

/-- Every beat command presents the beat it names. -/
theorem exec_beat {c : Instr} {b : BusBeat} (h : beatOf c = some b) (s : State) : exec c s = s.present b := by
  cases c <;> simp [beatOf] at h <;> subst h <;> rfl

/-- A beat taken at its arrival. -/
theorem State.Takes.present {s : State} {b : BusBeat} (h : s.Takes b) :
    s.present b = .next (s.takeCore b).settle := by
  obtain ⟨h1, h2, h3, h4, h5⟩ := h
  simp [State.present, h1, h2, State.arrive, h3, h4, State.takeBeat, h5]

/-- A beat without the lock attribute, taken within fitted DRAM, is routed. -/
theorem State.Takes.routed {s : State} {b : BusBeat} (h : s.Takes b) (hl : b.locked = false)
    (hr : s.route b.unit ≠ .beyond) : s.present b = .next (s.routeBeat b).settle := by
  have hf : ¬ s.fitted ≤ b.unit := by intro hf; apply hr; simp [State.route, hf]
  rw [h.present]
  simp [State.takeCore, BusBeat.refusedLocked, hl, State.lockBlocks, h.unlocked, hf]

variable (s : State)

@[simp] theorem State.delivered_pending (c : EccCondition) (l : List Access) : (s.delivered c l).pending = s.pending := by
  simp [State.delivered]
@[simp] theorem State.delivered_inReset (c : EccCondition) (l : List Access) : (s.delivered c l).inReset = s.inReset := by
  simp [State.delivered]
@[simp] theorem State.delivered_straps (c : EccCondition) (l : List Access) : (s.delivered c l).straps = s.straps := by
  simp [State.delivered]
@[simp] theorem State.delivered_part (c : EccCondition) (l : List Access) : (s.delivered c l).part = s.part := by
  simp [State.delivered]
@[simp] theorem State.delivered_mem (c : EccCondition) (l : List Access) : (s.delivered c l).mem = s.mem := by
  simp [State.delivered]
@[simp] theorem State.delivered_bus (c : EccCondition) (l : List Access) : (s.delivered c l).bus = s.bus := by
  simp [State.delivered]
@[simp] theorem State.delivered_capture (c : EccCondition) (l : List Access) : (s.delivered c l).capture = s.capture := by
  simp [State.delivered]
@[simp] theorem State.delivered_fetch (c : EccCondition) (l : List Access) : (s.delivered c l).fetch = s.fetch := by
  simp [State.delivered]
@[simp] theorem State.delivered_pipe (c : EccCondition) (l : List Access) : (s.delivered c l).pipe = s.pipe := by
  simp [State.delivered]
@[simp] theorem State.delivered_merge (c : EccCondition) (l : List Access) : (s.delivered c l).merge = s.merge := by
  simp [State.delivered]
@[simp] theorem State.delivered_expo (c : EccCondition) (l : List Access) : (s.delivered c l).expo = s.expo := by
  simp [State.delivered]
@[simp] theorem State.delivered_prod (c : EccCondition) (l : List Access) : (s.delivered c l).prod = s.prod := by
  simp [State.delivered]
@[simp] theorem State.delivered_loader (c : EccCondition) (l : List Access) : (s.delivered c l).loader = s.loader := by
  simp [State.delivered]
@[simp] theorem State.delivered_freeCount (c : EccCondition) (l : List Access) : (s.delivered c l).freeCount = s.freeCount := by
  simp [State.delivered]
@[simp] theorem State.landed_pending (u : Nat) (a : StoredUnit) (c : Option EccCondition) (l : List Access) :
    (s.landed u a c l).pending = s.pending := by simp [State.landed]
@[simp] theorem State.landed_inReset (u : Nat) (a : StoredUnit) (c : Option EccCondition) (l : List Access) :
    (s.landed u a c l).inReset = s.inReset := by simp [State.landed]
@[simp] theorem State.landed_straps (u : Nat) (a : StoredUnit) (c : Option EccCondition) (l : List Access) :
    (s.landed u a c l).straps = s.straps := by simp [State.landed]
@[simp] theorem State.landed_part (u : Nat) (a : StoredUnit) (c : Option EccCondition) (l : List Access) :
    (s.landed u a c l).part = s.part := by simp [State.landed]
@[simp] theorem State.landed_bus (u : Nat) (a : StoredUnit) (c : Option EccCondition) (l : List Access) :
    (s.landed u a c l).bus = s.bus := by simp [State.landed]
@[simp] theorem State.landed_capture (u : Nat) (a : StoredUnit) (c : Option EccCondition) (l : List Access) :
    (s.landed u a c l).capture = s.capture := by simp [State.landed]
@[simp] theorem State.landed_fetch (u : Nat) (a : StoredUnit) (c : Option EccCondition) (l : List Access) :
    (s.landed u a c l).fetch = s.fetch := by simp [State.landed]
@[simp] theorem State.landed_pipe (u : Nat) (a : StoredUnit) (c : Option EccCondition) (l : List Access) :
    (s.landed u a c l).pipe = s.pipe := by simp [State.landed]
@[simp] theorem State.landed_merge (u : Nat) (a : StoredUnit) (c : Option EccCondition) (l : List Access) :
    (s.landed u a c l).merge = s.merge := by simp [State.landed]
@[simp] theorem State.landed_expo (u : Nat) (a : StoredUnit) (c : Option EccCondition) (l : List Access) :
    (s.landed u a c l).expo = s.expo := by simp [State.landed]
@[simp] theorem State.landed_prod (u : Nat) (a : StoredUnit) (c : Option EccCondition) (l : List Access) :
    (s.landed u a c l).prod = s.prod := by simp [State.landed]
@[simp] theorem State.landed_loader (u : Nat) (a : StoredUnit) (c : Option EccCondition) (l : List Access) :
    (s.landed u a c l).loader = s.loader := by simp [State.landed]
@[simp] theorem State.landed_freeCount (u : Nat) (a : StoredUnit) (c : Option EccCondition) (l : List Access) :
    (s.landed u a c l).freeCount = s.freeCount := by simp [State.landed]

/-! ### What a count leaves of the port -/

@[simp] theorem State.countFound_asks (c : EccCondition) : (s.countFound c).port.asks = s.port.asks := by
  unfold State.countFound; split
  · rfl
  · cases c <;> simp

@[simp] theorem State.countFound_inFlight (c : EccCondition) : (s.countFound c).port.inFlight = s.port.inFlight := by
  unfold State.countFound; split
  · rfl
  · cases c <;> simp

@[simp] theorem State.countFound_tiles (c : EccCondition) : (s.countFound c).notice.tiles = s.notice.tiles := by
  unfold State.countFound; split
  · rfl
  · cases c
    · rfl
    · rfl
    · change (State.raise _ _).notice.tiles = _
      unfold State.raise; split <;> rfl

@[simp] theorem State.delivered_asks (c : EccCondition) (l : List Access) :
    (s.delivered c l).port.asks = s.port.asks := by simp [State.delivered]
@[simp] theorem State.delivered_inFlight (c : EccCondition) (l : List Access) :
    (s.delivered c l).port.inFlight = l := by simp [State.delivered]
@[simp] theorem State.delivered_asking (c : EccCondition) (l : List Access) (pick : Job → Bool) :
    (s.delivered c l).asking pick = s.asking pick := by simp [State.asking]
@[simp] theorem State.delivered_tiles (c : EccCondition) (l : List Access) :
    (s.delivered c l).notice.tiles = s.notice.tiles := by simp [State.delivered]
@[simp] theorem State.landed_asks (u : Nat) (a : StoredUnit) (c : Option EccCondition) (l : List Access) :
    (s.landed u a c l).port.asks = s.port.asks := by simp [State.landed]
@[simp] theorem State.landed_inFlight (u : Nat) (a : StoredUnit) (c : Option EccCondition) (l : List Access) :
    (s.landed u a c l).port.inFlight = l := by simp [State.landed]
@[simp] theorem State.landed_asking (u : Nat) (a : StoredUnit) (c : Option EccCondition) (l : List Access)
    (pick : Job → Bool) : (s.landed u a c l).asking pick = s.asking pick := by simp [State.asking]
@[simp] theorem State.landed_mem (u : Nat) (a : StoredUnit) (c : Option EccCondition) (l : List Access) :
    (s.landed u a c l).mem = s.mem.writeUnit u a := by simp [State.landed]

end Sys2Proof.Machine
end

