-- ==== Sys2Proof/Laws/PlanBody.lean ====
section
/-! SUPPORT. The plan body as the units it is read in: the check sum unit by unit, and the beats gathered. -/

namespace Sys2Proof.Machine

/-- The sum of the first `n` 32-bit words of a record. -/
def wordSum : Nat → List Byte → Nat
  | 0, _ => 0
  | n + 1, b => field b 0 4 + wordSum n (b.drop 4)

theorem field_drop (b : List Byte) (k off width : Nat) : field (b.drop k) off width = field b (k + off) width := by
  simp [field, List.drop_drop]

theorem wordSum_eq (n : Nat) (b : List Byte) :
    wordSum n b = ((List.range n).map fun i => field b (4 * i) 4).sum := by
  induction n generalizing b with
  | zero => rfl
  | succ n ih =>
    rw [wordSum, ih, List.range_succ_eq_map, List.map_cons, List.sum_cons, List.map_map]
    congr 2
    refine List.map_congr_left fun i _ => ?_
    rw [field_drop, Function.comp_apply]
    congr 1; omega

/-- The check sum with its own word left out by position (R16). -/
theorem Body.sum_eq (b : Body) :
    b.sum = (field b 0 4 + field b 4 4 + wordSum 2893 (b.drop 12)) % 2 ^ 32 := by
  have key : ∀ n, (((List.range (3 + n)).filter fun i => decide (i ≠ 2)).map fun i => field b (4 * i) 4).sum =
      field b 0 4 + field b 4 4 + wordSum n (b.drop 12) := by
    intro n
    have h : ((List.range n).map (3 + ·)).filter (fun i => decide (i ≠ 2)) = (List.range n).map (3 + ·) := by
      refine List.filter_eq_self.2 fun a ha => ?_
      obtain ⟨x, _, rfl⟩ := List.mem_map.1 ha
      simp; omega
    have h3 : (List.range 3).filter (fun i => decide (i ≠ 2)) = [0, 1] := by decide
    rw [List.range_add, List.filter_append, h, h3, List.map_append, List.sum_append, wordSum_eq, List.map_map]
    congr 1
    refine congrArg List.sum (List.map_congr_left fun i _ => ?_)
    rw [field_drop, Function.comp_apply]
    congr 1; omega
  have := key 2893
  rw [Body.sum]
  exact congrArg (· % 2 ^ 32) this

theorem bytesOf_cons (w : Word) (us : List Word) :
    bytesOf (w :: us) = [w.byte 0, w.byte 1, w.byte 2, w.byte 3, w.byte 4, w.byte 5, w.byte 6, w.byte 7] ++ bytesOf us := by
  simp [bytesOf, List.range_succ]

/-- Two words to a unit. -/
theorem wordSum_bytesOf (us : List Word) :
    wordSum (2 * us.length) (bytesOf us) = (us.map fun w => w.toNat % 2 ^ 32 + w.toNat / 2 ^ 32).sum := by
  induction us with
  | nil => rfl
  | cons w us ih =>
    have h : 2 * (w :: us).length = 2 * us.length + 1 + 1 := by simp; omega
    rw [h, wordSum, wordSum, List.drop_drop, field_drop, bytesOf_cons]
    simp only [List.map_cons, List.sum_cons, ← ih, ← Nat.add_assoc]
    have : w.toNat < 2 ^ 64 := w.isLt
    simp [field, Word.byte]
    omega

/-- A beat's data when every beat was delivered once, in address order. -/
theorem gathered_full (us : List Word) (n : Nat) (h : us.length = n) :
    gathered n ((List.range n).map fun k => (k, us.getD k 0#64)) = us := by
  have key : ∀ (m lo k : Nat), lo ≤ k → k < lo + m →
      assocGet 0#64 k ((List.range' lo m).map fun k => (k, us.getD k 0#64)) = us.getD k 0#64 := by
    intro m
    induction m with
    | zero => intros; omega
    | succ m ih =>
      intro lo k h1 h2
      rw [List.range'_succ, List.map_cons, assocGet]
      split
      · next h => rw [h]
      · next h => exact ih (lo + 1) k (by omega) (by omega)
  subst h
  apply List.ext_getElem
  · simp [gathered]
  · intro i h1 h2
    simp only [gathered, List.getElem_map, List.getElem_range]
    rw [List.range_eq_range']
    rw [key _ _ _ (by omega) (by omega)]
    simp [List.getD, h2]

/-- The same with the last beat delivered last. -/
theorem gathered_last (us : List Word) (n : Nat) (h : us.length = n + 1) :
    gathered (n + 1) (((List.range n).map fun k => (k, us.getD k 0#64)) ++ [(n, us.getD n 0#64)]) = us := by
  have := gathered_full us (n + 1) h
  rwa [List.range_succ, List.map_append] at this

end Sys2Proof.Machine
end

