-- ==== Sys2Proof/Tests/Slice0.lean ====
section
/-! SUPPORT. The model's own tests: ill-formed commands that WellFormed refuses, values from the spec's worked
examples, and for every statement of Obligations.lean that has hypotheses a state and operands that meet them
(`witness_<Name>`, one conjunct for each clause). -/

namespace Sys2Proof.Tests

open Sys2Proof.Machine

/-! ### WellFormed -/

theorem test_read_burst_of_none : (Instr.frameBusReadBeat 0 0#36 0 0).wellFormed = false := by decide
theorem test_write_burst_of_17 : (Instr.frameBusWriteBeat 0 0#36 0 17 0xFF#8 0#64).wellFormed = false := by decide
theorem test_raw_index_at_length : (Instr.rawWriteBeat 0 0#36 4 4 0xFF#8 0#64).wellFormed = false := by decide
theorem test_cell_read_index : (Instr.cellReadBeat 0 0#36 1 1).wellFormed = false := by decide
theorem test_cell_write_burst : (Instr.cellWriteBeat 0 0#36 0 17 0xFF#8 0#64).wellFormed = false := by decide
theorem test_protected_write_burst : (Instr.protectedWriteBeat 0 0#36 0 0 0xFF#8 0#64).wellFormed = false := by decide
theorem test_locked_index : (Instr.lockedRead 0 false 0#36 1 1 0#8 0#64).wellFormed = false := by decide
theorem test_view_read_index : (Instr.viewReadBeat 0 0#36 2 2).wellFormed = false := by decide
theorem test_view_write_burst : (Instr.viewWriteBeat 0 0#36 0 18 0xFF#8 0#64).wellFormed = false := by decide
theorem test_timer_of_third_bank : (Instr.completionTimerExpiry 2).wellFormed = false := by decide
theorem test_full_burst_is_well_formed : (Instr.frameBusReadBeat 0 0#36 15 16).wellFormed = true := by decide
theorem test_no_word_spells_a_command : decodeTableWord 32 0 = none := by decide

/-! ### Worked examples of the spec -/

/-- The table of R160. -/
theorem test_normalise_examples :
    normalise 19828 4 0 = 4957#16 ∧ normalise 10000 3 2 = 833#16 ∧ normalise 5 1 1 = 3#16 ∧
    normalise (-5) 1 1 = BitVec.ofInt 16 (-3) ∧ normalise 2147483647 1 0 = 32767#16 ∧
    normalise (-2147483648) 1 0 = BitVec.ofInt 16 (-32767) ∧ normalise 26358 0 0 = 0x8000#16 := by decide

/-- R64: a downward step with w = 3 moves by the floor of an eighth of the difference. -/
theorem test_bias_steps_down : biasStep 3 0 ⟨true, 1600⟩ (some 1599) = ⟨true, 1599⟩ := by decide

/-- R64: an upward step smaller than 2^w sixteenths does not move the estimate. -/
theorem test_bias_stays : biasStep 3 0 ⟨true, 1600⟩ (some 1607) = ⟨true, 1600⟩ := by decide

/-- R66: dark charge of the highest rate and exposure time. -/
theorem test_dark_charge_top : darkCharge 65535 4194303 = 262140 := by decide

/-- R68: unit gain and full transparency give unit factor. -/
theorem test_unit_factor : combinedFactor 16384 16384 = 16384 := by decide

/-- R25: segment 2, row 3, column 8 of a bank window. -/
theorem test_raw_place : rawPlace (2 * 0x1000000 + 3 * 0x1000 + 16) = ⟨2, 3, 8⟩ := by decide

/-- R90, R92, Table 12-13: a record keeps its two spare bits. -/
theorem test_cell_record_word : CellRecord.ofWord 0x07C00002FFFFFFFF#64 = ⟨-1, 2, 0xC0#8, 7⟩ := by decide

/-- R155: the last unit of a product of 5 cells enables one value. -/
theorem test_last_beat_enables : beatEnables 1 = 0x03#8 := by decide

/-! ### Small states -/

def tile : TileEntry := ⟨1, false, false, 0, 0, 0, 0, 0⟩
def segment : SegmentEntry := ⟨0, 0, 8, 4, 4, 0, 0, .ident, 16384, 1, 100, 60000⟩
def product : ProductEntry := ⟨0x80000000, 3, 2, 1, 0, 0, 2, 10, 2, 0, 0x90000000, 0xA0000000⟩
def plan : Plan :=
  ⟨0x100000000, 0, 5, 3, 0, 0, [tile], [segment],
    [product, ProductEntry.undefined, ProductEntry.undefined, ProductEntry.undefined]⟩

/-- PLANNED with a plan of one tile, one segment and one product of 3 by 2 cells. -/
def planned : State :=
  { State.reset with part := .planned, loader := { Loader.initial with plan := some plan, generation := 1 } }

/-- The product in a state. -/
def inState (st : ProductState) : State := planned.setProduct 0 ⟨st, .none⟩

def record : ExposureRecord :=
  { state := .active, endStatus := none, number := 0, tag := 7, product := 0, bank := 0, exposureTime := 1000,
    transparency := 16384, du := 0, dv := 0, capture := false, limit := 100, elapsed := 0, included := [⟨0, 0, 0, 0⟩],
    excluded := [], factors := [(0, 16384)], map := ⟨[⟨0, .ident, 0, 0⟩], 1, 3, 2, 0x80000000⟩, rowMap := [],
    counters := Counters.zero, firstFault := none }

/-- An exposure that runs into the OPEN product from bank 0. -/
def exposing : State :=
  ((inState .opened).onExpo fun e =>
    { e with records := [record], ring := [⟨0, .active, none, false⟩], accepted := 1 }).setBank 0 ⟨true, false⟩

/-- The exposure with other fields of its record. -/
def exposingWith (f : ExposureRecord → ExposureRecord) : State := exposing.onRecord 0 f

def entry (st : EntryState) (asked outstanding : Bool) : Entry :=
  ⟨0x80000000, 0, ⟨100, 2, 0#8, 7⟩, st, asked, false, outstanding⟩

/-- The OPEN product with its first cell held. -/
def holding (e : Entry) : State :=
  ((inState .opened).setEntry 0 (some e)).onMerge fun m => { m with order := [0] }

/-- A state with one access in flight. -/
def fly (s : State) (job : Job) (unit : Nat) (kind : AccessKind) : State :=
  s.onPort fun p => { p with inFlight := [⟨job, unit, kind⟩] }

/-- A state with one ask. -/
def asked (s : State) (a : Ask) : State := s.onPort fun p => { p with asks := [a] }

/-- A state with a request dispatched. -/
def given (s : State) (kind : Nat) (r : RequestRecord) : State :=
  s.onBus fun f => { f with inHand := some ⟨kind, 5, r, .dispatched⟩ }

def request : RequestRecord := ⟨0, 7, 0, 1#32, 0xFFFFFFFE#32⟩

theorem takes_of {s : State} {b : BusBeat}
    (h : (beatWellFormed b.index b.length && !s.inReset && !s.masterHeld b.master &&
      !(s.bus.stalled.any fun x => decide (x.master = b.master)) && decide (s.bus.lock = none)) = true) :
    s.Takes b := by
  simp only [Bool.and_eq_true, Bool.not_eq_true', decide_eq_true_eq] at h
  obtain ⟨⟨⟨⟨h1, h2⟩, h3⟩, h4⟩, h5⟩ := h
  exact ⟨h1, h2, h3, h4, h5⟩

theorem delivers_of {s : State} {pick : Job → Bool} {job : Job} {unit : Nat} {data : Word} {found : EccCondition}
    (h1 : s.inReset = false) (h2 : pick job = true) :
    (fly s job unit (.read data found)).Delivers pick 0 job unit data found [] :=
  ⟨h1, h2, [], [], rfl, rfl, rfl, rfl⟩

theorem completes_of {s : State} {pick : Job → Bool} {job : Job} {unit : Nat} {after : StoredUnit}
    {found : Option EccCondition} (h1 : s.inReset = false) (h2 : pick job = true) :
    (fly s job unit (.write after found)).Completes pick 0 job unit after found [] :=
  ⟨h1, h2, [], [], rfl, rfl, rfl, rfl⟩

theorem given_dispatched {s : State} {kind : Nat} {r : RequestRecord} (h : s.inReset = false) :
    (given s kind r).Dispatched kind r := ⟨h, by simp [given, State.dispatched, State.onBus]⟩

/-! ### Witnesses: the step, reset and the frames -/

theorem witness_StepRunsFront :
    (State.reset.setPending [.resetAssert]).pending = .resetAssert :: [] ∧ State.reset.pending = [] := by decide

theorem witness_SoundKept : State.reset.Sound ∧ step State.reset = .next State.reset :=
  ⟨⟨by decide, by decide, by decide⟩, rfl⟩

theorem witness_BoundedKept : State.reset.Bounded ∧ step State.reset = .next State.reset :=
  ⟨⟨by decide, by decide, by decide, List.length_replicate, by decide, by decide, by decide, by decide, by decide,
    by decide, by decide, by decide, by decide, by decide, by decide, by decide⟩, rfl⟩

theorem witness_SettleQuiet : exposing.quiet = true := by decide

theorem witness_ResetReleased :
    (Instr.wellFormed (.frameBusReadBeat 0 0#36 15 16) = true ∧ State.reset.hardReset.inReset = true ∧
      ∀ b p m, (.frameBusReadBeat 0 0#36 15 16 : Instr) ≠ .resetRelease b p m) ∧
    State.reset.inReset = false ∧
    exec (.resetRelease true 3#2 3#2) State.reset.hardReset = .next (State.reset.hardReset.released true 3#2 3#2) :=
  ⟨⟨by decide, rfl, fun _ _ _ h => by cases h⟩, rfl, rfl⟩

theorem witness_ResetAsserted :
    let s := fly exposing .clearWrite 8 (.write ⟨5#64, .correct⟩ none)
    s.inReset = false ∧ s.unwritten 7 ∧ s.unwritten 16 ∧ s.mem.wf = true ∧
      ∀ x ∈ s.port.inFlight, x.isWrite = true → x.unit = 8 ∨ x.unit + 8 ≤ 8 ∨ 8 + 8 ≤ x.unit := by
  refine ⟨rfl, ?_, ?_, rfl, ?_⟩ <;> simp [fly, State.unwritten, State.onPort]

/-- A state with one ask waiting and none granted, and its grant's outcome. -/
def oneAsk : State := asked planned ⟨.fill, 0x80000000, none⟩

theorem witness_FrameMemory :
    (exec .writeBackChoice planned = .next planned ∧ landsWrites .writeBackChoice = false ∧
      ∀ x, (.writeBackChoice : Instr) ≠ .portGrant (some x)) ∧
    ((∃ t, exec (.clearWriteComplete 0) (fly planned .clearWrite 8 (.write ⟨5#64, .correct⟩ none)) = .next t) ∧
      landsWrites (.clearWriteComplete 0) = true ∧
      (fly planned .clearWrite 8 (.write ⟨5#64, .correct⟩ none)).unwritten 7) ∧
    ((∃ t, exec (.portGrant (some ⟨.corrected, 1#64⟩)) oneAsk = .next t) ∧
      ∀ k, oneAsk.nextAsk = some k → 0x7FFFFFFF < k.unit ∨ k.unit + 8 ≤ 0x7FFFFFFF) := by
  refine ⟨⟨rfl, rfl, fun x h => by cases h⟩, ⟨⟨_, rfl⟩, rfl, ?_⟩, ⟨_, rfl⟩, ?_⟩
  · simp [fly, State.unwritten, State.onPort]
  · intro k h
    have : oneAsk.nextAsk = some ⟨.fill, 0x80000000, none⟩ := by decide
    rw [this] at h; cases h; left; decide

theorem witness_FrameControl : exec .writeBackChoice planned = .next planned := rfl

/-! ### Witnesses: beats -/

theorem witness_RouteTable :
    State.reset.fitted ≤ 0x200000000 ∧
    ({ planned with part := .bypass } : State).part = .bypass ∧ 0x1FFFFFFF8 < planned.fitted ∧
    (State.reset.planBase ≤ 0xFFFF8 ∧ 0xFFFF8 < State.reset.planBase + 2 ^ 20) ∧
    (planned.planBase + 2 ^ 20 ≤ 0x100000 ∧ planned.part = .planned ∧ planned.loader.plan = some plan) ∧
    (plan.bank0 ≠ 0 ∧ plan.bank0 ≤ 0x1FFFFFFF8 ∧ 0x1FFFFFFF8 < plan.bank0 + 2 ^ 32) ∧
    (let p := { plan with bank0 := 0, bank1 := 0x100000000 }
     p.bank0 = 0 ∧ p.bank1 ≠ 0 ∧ p.bank1 ≤ 0x100000000 ∧ 0x100000000 < p.bank1 + 2 ^ 32) ∧
    (plan.products = [] ++ product :: List.replicate 3 ProductEntry.undefined ∧ product.base ≤ 0x80000028 ∧
      0x80000028 < product.base + 8 * (product.width * product.height)) ∧
    ((∀ x ∈ plan.products, x.base = 0 ∨ 0x90000008 < x.base ∨ x.base + 8 * (x.width * x.height) ≤ 0x90000008) ∧
      product.viewBase ≤ 0x90000008 ∧ 0x90000008 < product.viewBase + (2 * (product.width * product.height) + 7) / 8 * 8) ∧
    (∀ x ∈ plan.products, x.holdsView 0x90000010 = false) := by decide

theorem witness_BeatsByAddress :
    (beatOf (.viewReadBeat 1 0x80000000#36 0 1) = some (readBeat 1 0x80000000#36 0 1) ∧
      beatOf (.cellReadBeat 1 0x80000000#36 0 1) = some (readBeat 1 0x80000000#36 0 1)) ∧
    beatWellFormed 16 16 = false ∧
    (Instr.wellFormed (.frameBusReadBeat 1 0#36 0 1) = true ∧
      (asked planned ⟨.busRead (readBeat 1 0#36 0 1), 0, none⟩).masterHeld 1 = true ∧
      (asked planned ⟨.busRead (readBeat 1 0#36 0 1), 0, none⟩).inReset = false) ∧
    planned.Takes (readBeat 1 0x200000000#36 0 1) ∧ planned.fitted ≤ (readBeat 1 0x200000000#36 0 1).unit :=
  ⟨by decide, by decide, by decide, takes_of (by decide), by decide⟩

def loading : State := planned.onLoader fun l => { l with load := some ⟨0, [], none, false, true⟩ }

theorem witness_MemoryBeats :
    (planned.Takes (readBeat 0 0xFFFF8#36 0 1) ∧ planned.route 0xFFFF8 = .planArea) ∧
    (planned.Takes (writeBeat 0 0x100000#36 0 1 0x01#8 0#64) ∧ planned.route 0x100000 = .ordinary) ∧
    (loading.Takes (writeBeat 0 0x2D38#36 0 1 0x01#8 0#64) ∧ loading.route 0x2D38 = .planArea ∧
      loading.loader.load = some ⟨0, [], none, false, true⟩ ∧ 0x2D38 < loading.planBase + 0x2D40) ∧
    (loading.Takes (writeBeat 0 0x2D40#36 0 1 0x01#8 0#64) ∧ loading.route 0x2D40 = .planArea ∧
      loading.planBase + 0x2D40 ≤ 0x2D40) :=
  ⟨⟨takes_of (by decide), by decide⟩, ⟨takes_of (by decide), by decide⟩,
    ⟨takes_of (by decide), by decide, by decide, by decide⟩, takes_of (by decide), by decide, by decide⟩

/-- A raw write beat of one unit at an offset of bank 0. -/
def rawBeat (offset : BitVec 36) (enables : BitVec 8) : BusBeat := writeBeat 0 (0x100000000#36 + offset) 0 1 enables 0#64

theorem witness_RawUnused :
    (planned.Takes (rawBeat 0 0xFF#8) ∧ planned.route (rawBeat 0 0xFF#8).unit = .raw 0 ∧
      (planned.bank 0).bound = false) ∧
    (exposing.Takes (rawBeat 0 0#8) ∧ exposing.route (rawBeat 0 0#8).unit = .raw 0 ∧
      (exposing.bank 0).bound = true ∧ exposing.recordOf 0 = some record) ∧
    (exposing.Takes (rawBeat 0x4000 0xFF#8) ∧ exposing.route (rawBeat 0x4000 0xFF#8).unit = .raw 0 ∧
      rawPlace ((rawBeat 0x4000 0xFF#8).unit - exposing.bankBase 0) = ⟨0, 4, 0⟩ ∧ exposing.segment 0 = some segment ∧
      segment.rows ≤ 4) ∧
    (let s := exposingWith fun r => { r with excluded := [(0, .withdrawn)] }
     s.Takes (rawBeat 0x3010 0xFF#8) ∧ s.route (rawBeat 0x3010 0xFF#8).unit = .raw 0 ∧
      rawPlace ((rawBeat 0x3010 0xFF#8).unit - s.bankBase 0) = ⟨0, 3, 8⟩ ∧
      3 < segment.rows ∧ 8 < segment.width + segment.overscan ∧ s.recordOf 0 = some { record with excluded := [(0, .withdrawn)] }) :=
  ⟨⟨takes_of (by decide), by decide, by decide⟩, ⟨takes_of (by decide), by decide, by decide, by decide⟩,
    ⟨takes_of (by decide), by decide, by decide, by decide, by decide⟩,
    takes_of (by decide), by decide, by decide, by decide, by decide, by decide⟩

/-- The exposure with row 2 of its segment being collected up to column 4. -/
def collecting : State :=
  exposing.setSlot 0 { Slot.blank with
    state := .collecting, bank := 0, tag := 7, segment := 0, row := 2, next := 4, pixels := [(0, 1#16)],
    zero := ⟨some .absent, []⟩, dark := ⟨some .absent, []⟩, flat := ⟨some .absent, []⟩ }

theorem witness_RawRows :
    (exposing.Takes (rawBeat 0x3008 0xFF#8) ∧ exposing.capture.held = [] ∧
      exposing.route (rawBeat 0x3008 0xFF#8).unit = .raw 0 ∧ (exposing.bank 0).bound = true ∧
      exposing.recordOf 0 = some record ∧
      rawPlace ((rawBeat 0x3008 0xFF#8).unit - exposing.bankBase 0) = ⟨0, 3, 4⟩ ∧
      exposing.segment 0 = some segment ∧ exposing.tile 0 = some tile ∧ 3 < segment.rows ∧
      4 + 4 ≠ segment.width + segment.overscan ∧ exposing.collecting 0 0 = none ∧
      exposing.capture.slots = [] ++ Slot.blank :: List.replicate 47 Slot.blank) ∧
    (collecting.Takes (rawBeat 0x2000 0xFF#8) ∧ collecting.route (rawBeat 0x2000 0xFF#8).unit = .raw 0 ∧
      collecting.capture.held = [] ∧ collecting.recordOf 0 = some record ∧
      rawPlace ((rawBeat 0x2000 0xFF#8).unit - collecting.bankBase 0) = ⟨0, 2, 0⟩ ∧
      collecting.collecting 0 0 = some 0 ∧ (collecting.slot 0).row = 2 ∧ 0 < (collecting.slot 0).next) ∧
    (collecting.Takes (rawBeat 0x2008 0xF3#8) ∧ collecting.route (rawBeat 0x2008 0xF3#8).unit = .raw 0 ∧
      rawPlace ((rawBeat 0x2008 0xF3#8).unit - collecting.bankBase 0) = ⟨0, 2, 4⟩ ∧ (collecting.slot 0).next ≤ 4) :=
  ⟨⟨takes_of (by decide), by decide, by decide, by decide, by decide, by decide, by decide, by decide, by decide,
    by decide, by decide, rfl⟩,
   ⟨takes_of (by decide), by decide, by decide, by decide, by decide, by decide, by decide, by decide⟩,
   takes_of (by decide), by decide, by decide, by decide⟩

/-- The exposure with a segment of one beat to the row. -/
def narrow : State :=
  exposing.onLoader fun l => { l with plan := some { plan with segments := [{ segment with width := 4, overscan := 0 }] } }

/-- A beat that opens its row with the last column, whole or not; partly covered beats; and an exposure with CAPTURE. -/
theorem witness_RawRows_opens :
    (narrow.Takes (rawBeat 0x3000 0xFF#8) ∧ narrow.route (rawBeat 0x3000 0xFF#8).unit = .raw 0 ∧
      rawPlace ((rawBeat 0x3000 0xFF#8).unit - narrow.bankBase 0) = ⟨0, 3, 0⟩ ∧ narrow.collecting 0 0 = none ∧
      ((narrow.segment 0).map fun g => g.width + g.overscan) = some (0 + 4)) ∧
    (exposing.Takes (rawBeat 0x3010 0xC4#8) ∧ rawPlace ((rawBeat 0x3010 0xC4#8).unit - exposing.bankBase 0) = ⟨0, 3, 8⟩ ∧
      8 + 4 = segment.width + segment.overscan ∧
      (∃ k ∈ [0, 1, 2, 3], (0xC4#8).getLsbD (2 * k) ≠ (0xC4#8).getLsbD (2 * k + 1)) ∧
      ∀ k ∈ [0, 1, 2, 3], (0xC3#8).getLsbD (2 * k) = (0xC3#8).getLsbD (2 * k + 1)) ∧
    (exposingWith fun r => { r with capture := true }).Takes (rawBeat 0x3010 0xC4#8) ∧
    (exposingWith fun r => { r with capture := true }).recordOf 0 = some { record with capture := true } :=
  ⟨⟨takes_of (by decide), by decide, by decide, by decide, by decide⟩,
    ⟨takes_of (by decide), by decide, by decide, by decide, by decide⟩, takes_of (by decide), by decide⟩

/-- Row 2 being collected with every column up to 8 received but those of a list. -/
def collected (missing : List Nat) : State :=
  collecting.setSlot 0 { collecting.slot 0 with
    next := 8, pixels := ((List.range 8).filter fun c => !missing.contains c).map fun c => (c, 1#16) }

/-- The columns that the slot holds with those of the row's last beat. -/
def columnsAfter (s : State) : List Nat := (s.slot 0).pixels.map (fun p => p.1) ++ [8, 9, 10, 11]

/-- The last beat of a row with every column received, of one with columns missing, and a beat of another row. -/
theorem witness_RawRows_last :
    (∀ missing ∈ [[], [0], [7, 5]], (rawPlace ((rawBeat 0x2010 0xFF#8).unit - (collected missing).bankBase 0) = ⟨0, 2, 8⟩ ∧
      ((collected missing).slot 0).next ≤ 8 ∧ 8 + 4 = segment.width + segment.overscan ∧
      (collected missing).collecting 0 0 = some 0 ∧ (collected missing).recordOf 0 = some record)) ∧
    (collected []).Takes (rawBeat 0x2010 0xFF#8) ∧ (∀ c < 12, c ∈ columnsAfter (collected [])) ∧
    (0 ∉ columnsAfter (collected [0]) ∧ 5 ∉ columnsAfter (collected [7, 5]) ∧
      ∀ c < 5, c ∈ columnsAfter (collected [7, 5])) ∧
    (collecting.Takes (rawBeat 0x3000 0xFF#8) ∧ rawPlace ((rawBeat 0x3000 0xFF#8).unit - collecting.bankBase 0) = ⟨0, 3, 0⟩ ∧
      (collecting.slot 0).row ≠ 3 ∧ ∀ k, k ≠ 0 → (collecting.slot k).state ≠ .collecting) := by
  refine ⟨by decide, takes_of (by decide), by decide, by decide, takes_of (by decide), by decide, by decide, fun k h => ?_⟩
  simp only [collecting, exposing, State.slot, State.setSlot, State.onCapture, List.getD_eq_getElem?_getD]
  rw [List.getElem?_set_ne (Ne.symm h)]
  change ((List.replicate 48 Slot.blank)[k]?.getD Slot.blank).state ≠ _
  rw [List.getElem?_replicate]
  split <;> decide

/-- A closing row that is a duplicate by the row map or by another slot, one with a frame PENDING, and another. -/
theorem witness_RawRows_close :
    (collecting.onRecord 0 fun r => { r with rowMap := [(0, 2)] }).isDuplicate 0 = true ∧
    (collecting.setSlot 47 { collecting.slot 0 with state := .applying }).isDuplicate 0 = true ∧
    (let s := collecting.setSlot 0 { collecting.slot 0 with flat := ⟨some .pending, []⟩ }
     s.isDuplicate 0 = false ∧ ∃ h ∈ [(s.slot 0).zero, (s.slot 0).dark, (s.slot 0).flat], h.status = some .pending) ∧
    (collecting.isDuplicate 0 = false ∧ 0 < collecting.capture.slots.length ∧
      ∀ h ∈ [(collecting.slot 0).zero, (collecting.slot 0).dark, (collecting.slot 0).flat], h.status ≠ some .pending) := by
  decide

/-- The exposure with a raw beat of master 3 held for a slot. -/
def holdingRaw : State :=
  exposing.onCapture fun c => { c with held := [⟨writeBeat 3 0x100000000#36 0 1 0xFF#8 0#64, 0, 0, 0, 0, 5, false⟩] }

theorem witness_HoldLimitReached :
    holdingRaw.inReset = false ∧
    holdingRaw.capture.held.find? (fun x => decide (x.beat.master = 3)) =
      some ⟨writeBeat 3 0x100000000#36 0 1 0xFF#8 0#64, 0, 0, 0, 0, 5, false⟩ ∧
    holdingRaw.recordOf 0 = some record := by decide

/-- Every slot holds a queued row of the bank. -/
def fullSlots : State :=
  exposing.onCapture fun c => { c with slots := List.replicate 48 { Slot.blank with state := .queued, row := 1 } }

theorem witness_HoldLimitReached_holds :
    fullSlots.Takes (rawBeat 0x1000 0x01#8) ∧ fullSlots.route (rawBeat 0x1000 0x01#8).unit = .raw 0 ∧
    ((fullSlots.bank 0).bound = true ∧ fullSlots.recordOf 0 = some record ∧ fullSlots.loader.plan = some plan ∧
      rawPlace ((rawBeat 0x1000 0x01#8).unit - fullSlots.bankBase 0) = ⟨0, 1, 0⟩ ∧ fullSlots.segment 0 = some segment ∧
      fullSlots.collecting 0 0 = none ∧ (∀ v ∈ fullSlots.capture.slots, v.state ≠ .free) ∧ fullSlots.capture.held = []) :=
  ⟨takes_of (by decide), by decide, by decide⟩

/-- A held beat of a master at a column of row 0. -/
def heldBeat (master row column : Nat) : HeldBeat :=
  ⟨writeBeat master 0x100000000#36 0 1 0xFF#8 0#64, 0, 0, row, column, 5, false⟩

/-- What a slot opened by a held beat of row 0 at a column becomes, while a beat of a row waits behind it. -/
def openedFor (column row : Nat) : State :=
  let s := exposing.onCapture fun c => { c with held := [heldBeat 4 row 4] }
  (((s.setSlot 0 { Slot.blank with
    state := .collecting, bank := 0, tag := 7, segment := 0, row := 0, next := column }).startFetches 0).storeBeat 0
      (heldBeat 3 0 column)).completeRaw (heldBeat 3 0 column)

theorem witness_HoldLimitReached_hands :
    (holdingRaw.capture.held = heldBeat 3 0 0 :: [] ∧
      holdingRaw.capture.slots = [] ++ Slot.blank :: List.replicate 47 Slot.blank ∧ holdingRaw.collecting 0 0 = none ∧
      holdingRaw.recordOf 0 = some record) ∧
    (collecting.collecting 0 0 = some 0 ∧ (collecting.slot 0).row = (heldBeat 3 2 4).row ∧
      (collecting.slot 0).row ≠ (heldBeat 3 0 0).row) ∧
    ((openedFor 0 0).capture.held = [] ++ heldBeat 4 0 4 :: [] ∧ (openedFor 0 0).collecting 0 0 = some 0 ∧
      ((openedFor 0 0).slot 0).row = 0 ∧ (openedFor 0 1).capture.held = [heldBeat 4 1 4]) ∧
    ((openedFor 8 0).capture.held = [heldBeat 4 0 4] ∧ (openedFor 8 0).collecting 0 0 = none) := by decide

/-- A beat of master 1 at the product's first cell. -/
def cellRead : BusBeat := readBeat 1 0x80000000#36 0 1
def cellWrite (enables : BitVec 8) : BusBeat := writeBeat 1 0x80000000#36 0 1 enables 0#64

theorem witness_CellReads :
    ((holding (entry .writing false false)).Takes cellRead ∧
      (holding (entry .writing false false)).route cellRead.unit = .cell 0 ∧
      ((holding (entry .writing false false)).product 0).state = .opened ∧
      (holding (entry .writing false false)).entryOf cellRead.unit = some 0 ∧
      (holding (entry .writing false false)).entry 0 = some (entry .writing false false)) ∧
    ((holding (entry .filling true false)).Takes cellRead ∧
      (holding (entry .filling true false)).route cellRead.unit = .cell 0 ∧
      (holding (entry .filling true false)).entry 0 = some (entry .filling true false)) ∧
    ((inState .frozen).Takes cellRead ∧ (inState .frozen).route cellRead.unit = .cell 0 ∧
      ((inState .frozen).product 0).state ≠ .opened) :=
  ⟨⟨takes_of (by decide), by decide, by decide, by decide, by decide⟩, ⟨takes_of (by decide), by decide, by decide⟩,
    takes_of (by decide), by decide, by decide⟩

/-- What a write to the held cell meets, as one Bool: the entry is found and the product OPEN. -/
def meetsEntry (e : Entry) : Bool :=
  decide ((holding e).route 0x80000000 = .cell 0) && decide (((holding e).product 0).state = .opened) &&
    decide ((holding e).entryOf 0x80000000 = some 0) && decide ((holding e).entry 0 = some e)

theorem witness_CellWrites :
    ((inState .opened).Takes (cellWrite 0#8) ∧ (inState .opened).route (cellWrite 0#8).unit = .cell 0) ∧
    ((inState .opened).Takes (cellWrite 1#8) ∧ (inState .opened).entryOf (cellWrite 1#8).unit = none) ∧
    ((holding (entry .clean false false)).Takes (cellWrite 1#8) ∧ meetsEntry (entry .clean false false) = true) ∧
    ((holding (entry .dirty false false)).Takes (cellWrite 1#8) ∧ meetsEntry (entry .dirty false false) = true) ∧
    ((holding (entry .dirty false true)).Takes (cellWrite 1#8) ∧ meetsEntry (entry .dirty false true) = true) ∧
    ((holding (entry .writing false false)).Takes (cellWrite 1#8) ∧ meetsEntry (entry .writing false false) = true) ∧
    ((holding (entry .filling true false)).Takes (cellWrite 1#8) ∧ meetsEntry (entry .filling true false) = true) ∧
    ((holding (entry .filling false false)).Takes (cellWrite 1#8) ∧ meetsEntry (entry .filling false false) = true) ∧
    ((inState .clearing).Takes (cellWrite 1#8) ∧ (inState .clearing).route (cellWrite 1#8).unit = .cell 0) :=
  ⟨⟨takes_of (by decide), by decide⟩, ⟨takes_of (by decide), by decide⟩, ⟨takes_of (by decide), by decide⟩,
    ⟨takes_of (by decide), by decide⟩, ⟨takes_of (by decide), by decide⟩, ⟨takes_of (by decide), by decide⟩,
    ⟨takes_of (by decide), by decide⟩, ⟨takes_of (by decide), by decide⟩, takes_of (by decide), by decide⟩

theorem witness_EntryDropped : (1 : Nat) ≠ 0 ∧ 0 ∈ (holding (entry .dirty false false)).merge.order := by decide

theorem witness_ProtectedWrites :
    ((inState .rendering).Takes (cellWrite 1#8) ∧ (inState .rendering).route (cellWrite 1#8).unit = .cell 0 ∧
      ((inState .rendering).product 0).state = .rendering) ∧
    ((inState .empty).Takes (writeBeat 1 0x90000008#36 0 1 0#8 0#64) ∧
      (inState .empty).route (writeBeat 1 0x90000008#36 0 1 0#8 0#64).unit = .view 0) :=
  ⟨⟨takes_of (by decide), by decide, by decide⟩, takes_of (by decide), by decide⟩

def lockedBeat (addr : BitVec 36) (write : Bool) (length : Nat) : BusBeat :=
  { master := 1, write := write, locked := true, addr := addr, index := 0, length := length, enables := 0#8,
    data := 0#64, pair := false }

/-- A lock of master 1 on the unit at 1 MiB. -/
def lockStands : State := planned.onBus fun f => { f with lock := some ⟨1, 0x100000, false⟩ }

/-- A lock of master 1 on a unit, with nothing else waiting. -/
def lockOn (s : State) (unit : Nat) : State := s.onBus fun f => { f with lock := some ⟨1, unit, false⟩ }

theorem witness_LockedPairs_reads :
    (planned.Takes (lockedBeat 0x100000000#36 false 1) ∧ planned.route 0x100000000 = .raw 0 ∧
      planned.Takes (lockedBeat 0#36 false 1) ∧ planned.route 0 = .planArea) ∧
    (∀ e ∈ [entry .writing false false, entry .filling true false, entry .filling false false], meetsEntry e = true) ∧
    ((inState .frozen).Takes (lockedBeat 0x80000000#36 false 1) ∧ ((inState .frozen).product 0).state ≠ .opened) ∧
    ((inState .empty).Takes (lockedBeat 0x90000000#36 false 1) ∧ (inState .empty).route 0x90000000 = .view 0) ∧
    (∀ st ∈ [ProductState.frozen, .rendering, .opened],
      (inState st).route 0x90000008 = .view 0 ∧ (inState st).productEntry 0 = some product ∧
      (0x90000008 - product.viewBase) / 2 < product.width * product.height ∧
      (inState st).entryOf (product.base + 4 * 8) = none) :=
  ⟨⟨takes_of (by decide), by decide, takes_of (by decide), by decide⟩, by decide, ⟨takes_of (by decide), by decide⟩,
    ⟨takes_of (by decide), by decide⟩, by decide⟩

/-- The pair's write in every region, a refused transaction of the locking master and one of another. -/
theorem witness_LockedPairs_writes :
    (∀ x ∈ [(planned, 0), (planned, 0x2D40), (planned, 0x100000), (planned, 0x100000000), (inState .empty, 0x80000000),
        (inState .opened, 0x80000000), (inState .rendering, 0x80000000), (inState .empty, 0x90000000)],
      (lockOn x.1 x.2).inReset = false ∧ (lockOn x.1 x.2).masterHeld 1 = false ∧ (lockOn x.1 x.2).masterHeld 2 = false ∧
      (lockOn x.1 x.2).bus.stalled = [] ∧ (lockOn x.1 x.2).bus.lock = some ⟨1, x.2, false⟩ ∧
      (writeBeat 1 (BitVec.ofNat 36 x.2) 0 1 1#8 0#64).unit = x.2) ∧
    ((lockOn planned 0).route 0 = .planArea ∧ planned.loader.load = none ∧ (lockOn planned 0x2D40).planBase + 0x2D40 ≤ 0x2D40 ∧
      (lockOn planned 0x100000000).route 0x100000000 = .raw 0 ∧ (planned.bank 0).bound = false ∧
      (inState .opened).route 0x80000000 = .cell 0 ∧ (inState .opened).entryOf 0x80000000 = none ∧
      (inState .empty).route 0x90000000 = .view 0) ∧
    (lockStands.quiet = true ∧ (lockedBeat 8#36 true 1).write = true ∧ (lockedBeat 8#36 false 2).length ≠ 1) := by decide

theorem witness_LockedPairs :
    (planned.Takes (lockedBeat 0x100000#36 true 1) ∧ planned.Takes (lockedBeat 0x100000#36 false 2)) ∧
    (planned.Takes (lockedBeat 0x100000#36 false 1) ∧ planned.route 0x100000 = .ordinary) ∧
    ((inState .opened).Takes (lockedBeat 0x80000000#36 false 1) ∧
      (inState .opened).entryOf (lockedBeat 0x80000000#36 false 1).unit = none) ∧
    ((holding (entry .clean false false)).Takes (lockedBeat 0x80000000#36 false 1) ∧
      meetsEntry (entry .clean false false) = true) ∧
    ((holding (entry .dirty false false)).Takes (lockedBeat 0x80000000#36 false 1) ∧
      meetsEntry (entry .dirty false false) = true) ∧
    (lockStands.inReset = false ∧ lockStands.masterHeld 1 = false ∧ lockStands.masterHeld 2 = false ∧
      lockStands.bus.stalled = [] ∧ lockStands.bus.lock = some ⟨1, 0x100000, false⟩ ∧
      (writeBeat 1 0x100000#36 0 1 1#8 0#64).unit = 0x100000 ∧ lockStands.route 0x100000 = .ordinary ∧
      (writeBeat 1 0x100008#36 0 1 1#8 0#64).unit ≠ 0x100000 ∧ (readBeat 2 0x100007#36 0 1).unit = 0x100000) :=
  ⟨⟨takes_of (by decide), takes_of (by decide)⟩, ⟨takes_of (by decide), by decide⟩,
    ⟨takes_of (by decide), by decide⟩, ⟨takes_of (by decide), by decide⟩, ⟨takes_of (by decide), by decide⟩, by decide⟩

/-- The OPEN product with its last two cells, 4 and 5, held. -/
def holdingLast : State :=
  (((inState .opened).setEntry 0 (some { entry .dirty false false with addr := 0x80000020 })).setEntry 1
    (some { entry .clean false false with addr := 0x80000028 })).onMerge fun m => { m with order := [0, 1] }

theorem witness_ViewReads :
    ((inState .clearing).Takes (readBeat 1 0x90000000#36 0 1) ∧
      (inState .clearing).route (readBeat 1 0x90000000#36 0 1).unit = .view 0 ∧
      (inState .clearing).productEntry 0 = some product) ∧
    (holdingLast.Takes (readBeat 1 0x90000000#36 1 2) ∧ holdingLast.route (readBeat 1 0x90000000#36 1 2).unit = .view 0 ∧
      ((readBeat 1 0x90000000#36 1 2).unit - product.viewBase) / 2 = 4 ∧
      holdingLast.entryOf (0x80000000 + 4 * 8) = some 0 ∧ holdingLast.entryOf (0x80000000 + 5 * 8) = some 1) ∧
    ((inState .frozen).Takes (readBeat 1 0x90000008#36 0 1) ∧
      ((readBeat 1 0x90000008#36 0 1).unit - product.viewBase) / 2 < product.width * product.height) :=
  ⟨⟨takes_of (by decide), by decide, by decide⟩, ⟨takes_of (by decide), by decide, by decide, by decide, by decide⟩,
    takes_of (by decide), by decide⟩

theorem witness_ViewReads_waits :
    (holding (entry .filling false false)).Takes (readBeat 1 0x90000000#36 0 1) ∧
    (holding (entry .filling false false)).route (readBeat 1 0x90000000#36 0 1).unit = .view 0 ∧
    meetsEntry (entry .filling false false) = true :=
  ⟨takes_of (by decide), by decide, by decide⟩

/-! ### Witnesses: completions and control words -/

theorem witness_BusCompletions :
    (let s := fly planned (.busRead (readBeat 1 8#36 0 1)) 8 (.read 5#64 .uncorrectable)
     (s.landBefore isBusRead 0).Delivers isBusRead 0 (.busRead (readBeat 1 8#36 0 1)) 8 5#64 .uncorrectable []) ∧
    ((fly planned (.busWrite (writeBeat 1 8#36 0 1 0xFF#8 5#64) false) 8 (.write ⟨5#64, .correct⟩ none)).Completes
        isBusWrite 0 (.busWrite (writeBeat 1 8#36 0 1 0xFF#8 5#64) false) 8 ⟨5#64, .correct⟩ none [] ∧
      planned.wordAt 8 = none) :=
  ⟨delivers_of rfl rfl, completes_of rfl rfl, by decide⟩

/-- A unit of the reply slot is being written, and read by a master behind it. -/
def readBehind : State :=
  planned.onPort fun p => { p with inFlight := [⟨.replyUnit 0, 0x4040, .write ⟨5#64, .correct⟩ none⟩,
    ⟨.busRead (readBeat 1 0x4040#36 0 1), 0x4040, .read 5#64 .correct⟩] }

/-- R186: the read's delivery completes the write, whose own end no command reports alone (log 11). -/
theorem test_read_completes_the_write : ∃ t, exec (.frameBusReadDelivered 0) readBehind = .next t ∧
    t.mem.readUnit 0x4040 = ⟨5#64, .correct⟩ ∧ t.port.inFlight = [] := ⟨_, rfl, by decide, by decide⟩

/-- The beats of one burst that writes the request word and then the post word. -/
def wordBeat (i : Nat) : BusBeat := writeBeat 1 0x4000#36 i 2 0xFF#8 0x0000000200010005#64
def wordBurst : State :=
  planned.onPort fun p => { p with inFlight := [⟨.busWrite (wordBeat 0) false, 0x4000, .write ⟨0#64, .correct⟩ none⟩,
    ⟨.busWrite (wordBeat 1) false, 0x4008, .write ⟨0#64, .correct⟩ none⟩] }

theorem witness_BusCompletions_orders :
    (readBehind.port.inFlight = [] ++ ⟨.replyUnit 0, 0x4040, .write ⟨5#64, .correct⟩ none⟩ :: [] ++
        ⟨.busRead (readBeat 1 0x4040#36 0 1), 0x4040, .read 5#64 .correct⟩ :: [] ∧
      blockedBy [⟨.replyUnit 0, 0x4040, .write ⟨5#64, .correct⟩ none⟩] 0x4040 = false) ∧
    (wordBurst.inReset = false ∧ wordBurst.part ≠ .bypass ∧ wordBurst.wordAt (wordBeat 1).unit ≠ none ∧
      wordBurst.wordAt (wordBeat 0).unit ≠ none ∧ (wordBeat 1).enables.extractLsb' 0 4 = 0xF#4 ∧
      (wordBeat 0).index < (wordBeat 1).index ∧
      wordBurst.port.inFlight = [⟨.busWrite (wordBeat 0) false, 0x4000, .write ⟨0#64, .correct⟩ none⟩] ++
        ⟨.busWrite (wordBeat 1) false, 0x4008, .write ⟨0#64, .correct⟩ none⟩ :: []) := by decide

/-- A view read of master 1 with some positions answered. -/
def view (product : Nat) (values : List (BitVec 16)) (due : Bool) : ViewRead :=
  ⟨readBeat 1 0x90000000#36 0 1, product, 6, 0x80000000, 0, values, due⟩

/-- Its next position's read is in flight. -/
def viewing (st : ProductState) (v : ViewRead) (found : EccCondition) : State :=
  fly (inState st) (.viewRead v) 0x80000000 (.read 5#64 found)

theorem witness_ViewPositions :
    (∀ st v f, (viewing st v f).Delivers isViewRead 0 (.viewRead v) 0x80000000 5#64 f []) ∧
    (∀ st ∈ [ProductState.opened, .frozen, .rendering, .empty],
      (viewing st (view 0 [1#16, 2#16] false) .correct).productEntry 0 = some product ∧
      ((viewing st (view 0 [1#16, 2#16] false) .correct).product 0).state = st) ∧
    (viewing .empty (view 3 [] true) .corrected).productEntry 3 = none ∧ 0 + 2 + 1 < 6 :=
  ⟨fun _ _ _ => delivers_of rfl rfl, by decide, by decide, by decide⟩

/-- Each case of the next position: beyond the cells, EMPTY or CLEARING, from memory, from an entry, waiting; and none. -/
theorem witness_ViewPositions_cases :
    (∀ st, ((inState st).product (view 0 [1#16] false).product).state = st) ∧ (view 0 [1#16] false).values.length < 4 ∧
    ({ view 0 [1#16] false with first := 5 }).total ≤ 5 + 1 ∧ 0 + 1 < (view 0 [1#16] false).total ∧
    ((inState .opened).entryOf (0x80000000 + 1 * 8) = none ∧ (inState .opened).productEntry 0 = some product) ∧
    ((holding (entry .dirty false false)).entryOf (0x80000000 + 0 * 8) = some 0 ∧
      (holding (entry .dirty false false)).entry 0 = some (entry .dirty false false) ∧
      (holding (entry .filling true false)).entry 0 = some (entry .filling true false)) ∧
    (view 0 [1#16, 2#16, 3#16, 4#16] true).values = [1#16, 2#16, 3#16, 4#16] :=
  ⟨fun st => by cases st <;> decide, by decide⟩

/-- The write of a control word in flight. -/
def wordFly (s : State) (c : ControlWord) (enables : BitVec 8) (data : Word) : State :=
  fly s (.busWrite (writeBeat 1 (BitVec.ofNat 36 (s.wordUnit c)) 0 1 enables data) false) (s.wordUnit c)
    (.write ⟨data, .correct⟩ none)

theorem wordFly_completes {s : State} {c : ControlWord} {enables : BitVec 8} {data : Word} (h : s.inReset = false)
    (h2 : isBusWriteTo (s.wordUnit c)
      (.busWrite (writeBeat 1 (BitVec.ofNat 36 (s.wordUnit c)) 0 1 enables data) false) = true) :
    (wordFly s c enables data).Completes (fun j => isBusWrite j && isBusWriteTo ((wordFly s c enables data).wordUnit c) j)
      0 (.busWrite (writeBeat 1 (BitVec.ofNat 36 (s.wordUnit c)) 0 1 enables data) false) (s.wordUnit c)
      ⟨data, .correct⟩ none [] := by
  refine completes_of h ?_
  have : (wordFly s c enables data).wordUnit c = s.wordUnit c := rfl
  rw [this, h2]; rfl

theorem witness_RequestWordTaken :
    (wordFly planned .request 0x0F#8 0x00010005#64).Completes
      (fun j => isBusWrite j && isBusWriteTo ((wordFly planned .request 0x0F#8 0x00010005#64).wordUnit .request) j) 0
      (.busWrite (writeBeat 1 0x4000#36 0 1 0x0F#8 0x00010005#64) false) 0x4000 ⟨0x00010005#64, .correct⟩ none [] ∧
    (planned.part ≠ .bypass ∧ planned.bus.inHand = none ∧ (0x0F#8).extractLsb' 0 4 = 0xF#4) ∧
    (given planned 1 request).bus.inHand ≠ none ∧
    ((0x01#8).extractLsb' 0 4 ≠ 0xF#4 ∧ (0x01#8).extractLsb' 0 4 ≠ 0#4) :=
  ⟨wordFly_completes (c := .request) rfl (by decide), by decide, by decide, by decide⟩

theorem witness_PostWordTaken :
    (wordFly planned .post 0xFF#8 8#64).Completes
      (fun j => isBusWrite j && isBusWriteTo ((wordFly planned .post 0xFF#8 8#64).wordUnit .post) j) 0
      (.busWrite (writeBeat 1 0x4008#36 0 1 0xFF#8 8#64) false) 0x4008 ⟨8#64, .correct⟩ none [] ∧
    (let o := (planned.expo.accepted + 256 - planned.expo.consume) % 256
     o ≤ (8 + 256 - planned.expo.consume) % 256 ∧ (8 + 256 - planned.expo.consume) % 256 ≤ 8 ∧
     8 < (9 + 256 - planned.expo.consume) % 256) ∧
    (let o := (exposing.expo.accepted + 256 - exposing.expo.consume) % 256
     (0 + 256 - exposing.expo.consume) % 256 < o) :=
  ⟨wordFly_completes (c := .post) rfl (by decide), by decide, by decide⟩

theorem witness_NoticeWordsTaken :
    (wordFly planned .acknowledge 0xFF#8 0x1FF#64).Completes
      (fun j => isBusWrite j && isBusWriteTo ((wordFly planned .acknowledge 0xFF#8 0x1FF#64).wordUnit .acknowledge) j) 0
      (.busWrite (writeBeat 1 0x4010#36 0 1 0xFF#8 0x1FF#64) false) 0x4010 ⟨0x1FF#64, .correct⟩ none [] ∧
    (wordFly planned .mask 0x07#8 0#64).Completes
      (fun j => isBusWrite j && isBusWriteTo ((wordFly planned .mask 0x07#8 0#64).wordUnit .mask) j) 0
      (.busWrite (writeBeat 1 0x4018#36 0 1 0x07#8 0#64) false) 0x4018 ⟨0#64, .correct⟩ none [] ∧
    planned.part ≠ .bypass ∧ (0x07#8).extractLsb' 0 4 ≠ 0xF#4 :=
  ⟨wordFly_completes (c := .acknowledge) rfl (by decide), wordFly_completes (c := .mask) rfl (by decide), by decide,
    by decide⟩

/-- No earlier beat of the burst waits to take a control word. -/
theorem witness_word_first : ∀ c ∈ [ControlWord.request, .post, .acknowledge, .mask],
    (wordFly planned c 0xFF#8 1#64).wordBlocked (fun j => isBusWrite j &&
      isBusWriteTo ((wordFly planned c 0xFF#8 1#64).wordUnit c) j) 0 = false := by decide

/-- R174: the post word of a burst waits for the request word that an earlier beat of it writes. -/
theorem test_words_of_a_burst_in_order : exec .postWord wordBurst = .next wordBurst := rfl

/-- The request record's two reads in flight for a request of a kind. -/
def readingRecord (kind : Nat) (f0 f1 : EccCondition) : State :=
  (planned.onBus fun f => { f with inHand := some ⟨kind, 5, RequestRecord.unread, .reading⟩ }).onPort fun p =>
    { p with inFlight := [⟨.recordRead 0, 0x4020, .read 0#64 f0⟩, ⟨.recordRead 1, 0x4028, .read 0#64 f1⟩] }

theorem witness_RecordDelivered :
    (∀ kind ∈ [0, 1, 10, 11], ∀ f0 ∈ [EccCondition.correct, .uncorrectable], ∀ f1 ∈ [EccCondition.corrected, .uncorrectable],
      (readingRecord kind f0 f1).inReset = false ∧ (readingRecord kind f0 f1).asking isRecordRead = false ∧
      (readingRecord kind f0 f1).bus.inHand = some ⟨kind, 5, RequestRecord.unread, .reading⟩) ∧
    (readingRecord 10 .correct .corrected).port.inFlight =
      [] ++ ⟨.recordRead 0, 0x4020, .read 0#64 .correct⟩ :: [] ++ ⟨.recordRead 1, 0x4028, .read 0#64 .corrected⟩ :: [] :=
  ⟨by decide, rfl⟩

/-! ### Witnesses: requests -/

theorem witness_CommitTaken :
    ((given loading 1 request).Dispatched 1 request ∧
      (given (planned.onLoader fun l => { l with pendingMark := true }) 1 request).loader.pendingMark = true) ∧
    ((given exposing 1 request).Dispatched 1 request ∧ (given exposing 1 request).loader.pendingMark = false ∧
      (given exposing 1 request).expo.records ≠ []) ∧
    ((given planned 1 request).Dispatched 1 request ∧ (given planned 1 request).expo.records = [] ∧
      (given planned 1 request).asking isPlanRead = false) :=
  ⟨⟨given_dispatched rfl, by decide⟩, ⟨given_dispatched rfl, by decide, by decide⟩, given_dispatched rfl, by decide, by decide⟩

/-- A plan body beat in flight; `last` tells that every other beat has been delivered. -/
def bodyBeat (last : Bool) : State :=
  fly (loading.onLoader fun l => { l with
    load := some ⟨1448, if last then List.replicate 1447 (0, 0#64) else [], none, false, true⟩ }) (.planRead 1447)
    0x2D38 (.read 0#64 .uncorrectable)

/-- The last beat's load with a verdict of refusal: a body of zeros has no marker. -/
theorem witness_PlanBeats :
    ((bodyBeat false).Delivers isPlanRead 0 (.planRead 1447) 0x2D38 0#64 .uncorrectable [] ∧
      (bodyBeat false).loader.load = some ⟨1448, [], none, false, true⟩ ∧ ([] : List (Nat × Word)).length + 1 ≠ 1448) ∧
    ((bodyBeat true).Delivers isPlanRead 0 (.planRead 1447) 0x2D38 0#64 .uncorrectable [] ∧
      (List.replicate 1447 ((0, 0#64) : Nat × Word)).length + 1 = 1448) ∧
    (∀ (l : Loader) (load : Load) (a b : Nat) (f : Nat → ProductState), (Body.verdict [] l load a b f).1 ≠ .done) := by
  refine ⟨⟨delivers_of rfl rfl, rfl, by decide⟩, ⟨delivers_of rfl rfl, by rw [List.length_replicate]⟩, ?_⟩
  intro l load a b f
  have : Body.header [] 0 4 ≠ Config.planMarker := by decide
  unfold Body.verdict
  rw [if_pos this]; decide

theorem witness_OpenTaken :
    (given State.reset 2 request).Dispatched 2 request ∧ (given State.reset 2 request).part ≠ .planned ∧
    ((given planned 2 { request with product := 4 }).Dispatched 2 { request with product := 4 } ∧ planned.part = .planned) ∧
    ((given planned 2 request).Dispatched 2 request ∧ planned.productEntry 0 = some product ∧ request.argument = 1#32 ∧
      (planned.product 0).state = .empty ∧ planned.engineRuns = false) ∧
    ((given (inState .opened) 2 request).Dispatched 2 request ∧ ((inState .opened).product 0).state ≠ .empty) ∧
    ((given (planned.onEngine fun e => { e with kind := some .clear }) 2 request).Dispatched 2 request ∧
      (planned.onEngine fun e => { e with kind := some .clear }).engineRuns = true) ∧
    ((given planned 2 { request with argument := 2#32 }).Dispatched 2 { request with argument := 2#32 } ∧
      planned.asking isEngineJob = false ∧ 0 < product.width * product.height) :=
  ⟨given_dispatched rfl, by decide, ⟨given_dispatched rfl, rfl⟩, ⟨given_dispatched rfl, by decide⟩,
    ⟨given_dispatched rfl, by decide⟩, ⟨given_dispatched rfl, by decide⟩, given_dispatched rfl, by decide⟩

/-- The states a product can have, but the one named. -/
theorem witness_ThawRenderTaken :
    (∀ st ∈ [ProductState.rendering, .opened, .frozen, .empty],
      (given (inState st) 4 request).part = .planned ∧ ((given (inState st) 4 request).product 0).state = st ∧
      (given (inState st) 4 request).inReset = false ∧ (given (inState st) 4 request).dispatched 4 = some request) ∧
    (∀ st ∈ [ProductState.rendering, .opened, .frozen],
      ((given (inState st) 5 request).product 0).state = st ∧ (given (inState st) 5 request).dispatched 5 = some request ∧
      (given (inState st) 5 request).productEntry 0 = some product) ∧
    product.outBase ≠ 0 ∧ (inState .frozen).engineRuns = false ∧ (inState .frozen).asking isEngineJob = false ∧
    (planned.productEntry 1 = none) := by decide

theorem witness_FreezeDiscardTaken :
    (∀ st ∈ [ProductState.empty, .clearing, .opened, .frozen, .rendering],
      (given (inState st) 3 request).dispatched 3 = some request ∧ (given (inState st) 6 request).dispatched 6 = some request ∧
      (given (inState st) 6 request).inReset = false ∧ (given (inState st) 6 request).part = .planned ∧
      ((given (inState st) 6 request).product 0).state = st ∧ (given (inState st) 6 request).engineRuns = false) ∧
    ((given exposing 3 request).expo.records.any fun x => decide (x.product = 0)) = true ∧
    ((given planned 3 request).expo.records.any fun x => decide (x.product = 0)) = false := by decide

/-- A clear job of the product that has written two of its six cells. -/
def clearingJob : State :=
  (inState .clearing).onEngine fun _ => ⟨some .clear, 0, 6, 2, 2, 0x80000000, 0, 0, 0, [], none⟩

theorem witness_HaltTaken :
    ((given planned 7 request).Dispatched 7 request ∧ planned.prod.engine.kind = none) ∧
    ((given clearingJob 7 request).Dispatched 7 request ∧ (given clearingJob 7 request).jobEnding = false ∧
      (given clearingJob 7 request).flying isEngineJob = false ∧ clearingJob.prod.engine.kind = some .clear) ∧
    ((given (fly clearingJob .clearWrite 0x80000008 (.write ⟨0#64, .correct⟩ none)) 7 request).Dispatched 7 request ∧
      (fly clearingJob .clearWrite 0x80000008 (.write ⟨0#64, .correct⟩ none)).flying isEngineJob = true) :=
  ⟨⟨given_dispatched rfl, by decide⟩, ⟨given_dispatched rfl, by decide, by decide, by decide⟩, given_dispatched rfl, by decide⟩

/-- A flush of a freeze, and one of an exposure's drain, with its one entry settled or not. -/
def flushOf (asker : FlushFor) (settled : Bool) : State :=
  (exposing.setEntry 0 (some (entry .clean false false))).onMerge fun m => { m with
    order := [0], flushes := [⟨asker, [⟨0, true, settled⟩]⟩] }

/-- Requests without a plan, at once complete, with a job of the product, and the flush and discard that go on. -/
theorem witness_FreezeDiscardTaken_ends :
    (∀ k ∈ [3, 4, 5, 6, 7], (given State.reset k request).dispatched k = some request ∧
      (given State.reset k request).part ≠ .planned ∧ (given State.reset k request).jobEnding = false) ∧
    (let s := holding (entry .clean false false)
     (given s 3 request).dispatched 3 = some request ∧ (given s 6 request).dispatched 6 = some request ∧
      (given s 3 request).quiet = true ∧ s.entry 0 = some (entry .clean false false) ∧ s.entry 1 = none ∧
      s.merge.entries.length = 64 ∧ ∀ e ∈ s.merge.entries, ∀ x, e = some x → x.state = .clean ∧ x.writeOutstanding = false) ∧
    ((given clearingJob 6 request).dispatched 6 = some request ∧ (given clearingJob 6 request).jobEnding = false ∧
      clearingJob.prod.engine.kind = some .clear ∧ clearingJob.prod.engine.product = 0 ∧
      (clearingJob.product 0).state = .clearing ∧ (given clearingJob 6 request).flying isEngineJob = false ∧
      (given (fly clearingJob .clearWrite 0x80000008 (.write ⟨0#64, .correct⟩ none)) 6 request).flying isEngineJob = true) ∧
    (∀ x ∈ [(FlushFor.freeze 0, true), (.drain 0, true), (.freeze 0, false)],
      (flushOf x.1 x.2).merge.flushes = [] ++ ⟨x.1, [⟨0, true, x.2⟩]⟩ :: []) ∧ exposing.recordOf 0 = some record ∧
    (let s := exposing.onMerge fun m => { m with flushes := [⟨.drain 0, []⟩, ⟨.freeze 0, [⟨0, true, false⟩]⟩, ⟨.drain 1, []⟩] }
     s.merge.flushes.filter (fun f => f.members.all fun x => x.settled) = [⟨.drain 0, []⟩, ⟨.drain 1, []⟩]) ∧
    (∀ st ∈ [EntryState.writing, .clean], let s := (holding (entry st false false)).setProduct 0 ⟨.opened, .discarding⟩
      (s.product 0).mark = .discarding ∧ s.entry 0 = some (entry st false false)) := by decide

def searching : State :=
  planned.onExpo fun e => { e with ring := [⟨0, .pending, none, false⟩], accepted := 1 }

theorem witness_AbortTaken :
    ((given State.reset 8 request).Dispatched 8 request ∧ State.reset.part ≠ .planned) ∧
    ((given (exposingWith fun r => { r with state := .draining }) 8 request).Dispatched 8 request ∧
      (exposingWith fun r => { r with state := .draining }).expo.records.find? (fun y => decide (y.tag = 7)) =
        some { record with state := .draining }) ∧
    ((given exposing 8 request).Dispatched 8 request ∧ exposing.part = .planned ∧
      exposing.expo.records.find? (fun y => decide (y.tag = 7)) = some record ∧ exposing.recordOf 0 = some record ∧
      (exposing.bank 0).bound = true ∧ exposing.capture.held = [] ∧ exposing.slotsOf 0 SlotState.isHeld = []) ∧
    ((given planned 8 request).Dispatched 8 request ∧ planned.expo.records = [] ∧ planned.expo.ring = [] ∧
      planned.expo.tasks = []) ∧
    ((given searching 8 request).Dispatched 8 request ∧ searching.asking isExpoJob = false ∧
      searching.expo.ring.find? (fun c => decide (c.state = .pending) && c.mark.isNone) = some ⟨0, .pending, none, false⟩) ∧
    ((fly (given (searching.onExpo fun e => { e with search := some ⟨[], 0, true⟩ }) 8 request) (.searchRead 0) 0x8000
        (.read 0x07364E5845#64 .correct)).Delivers isSearchRead 0 (.searchRead 0) 0x8000 0x07364E5845#64 .correct [] ∧
      (0x07364E5845#64).extractLsb' 0 32 = 0x364E5845#32 ∧ ((0x07364E5845#64).extractLsb' 32 8).toNat = request.tag) ∧
    (fly (given (searching.onExpo fun e => { e with search := some ⟨[], 0, true⟩ }) 8 request) (.searchRead 0) 0x8000
      (.read 0#64 .uncorrectable)).Delivers isSearchRead 0 (.searchRead 0) 0x8000 0#64 .uncorrectable [] :=
  ⟨⟨given_dispatched rfl, by decide⟩, ⟨given_dispatched rfl, by decide⟩,
    ⟨given_dispatched rfl, by decide, by decide, by decide, by decide, by decide, by decide⟩,
    ⟨given_dispatched rfl, by decide⟩, ⟨given_dispatched rfl, by decide, by decide⟩,
    ⟨delivers_of rfl rfl, by decide, by decide⟩, delivers_of rfl rfl⟩

/-- An aborted exposure with a row in the state given, and a raw beat held. -/
def endedWith (st : SlotState) : State :=
  ((holdingRaw.onRecord 0 fun r => { r with endStatus := some .aborted }).setSlot 0 { Slot.blank with
    state := st, bank := 0, tag := 7 }).onCapture fun c => { c with ready := if st = .queued then [0] else [] }

/-- An exposure with held beats and rows, what its unbinding and the freeing of its rows meet, and its drain. -/
theorem witness_AbortTaken_rows :
    (given holdingRaw 8 request).dispatched 8 = some request ∧
    ((holdingRaw.bank 0).bound = true ∧ (holdingRaw.bank 1).bound = false ∧
      holdingRaw.capture.held.filter (fun h => decide (h.bank = 0)) ≠ []) ∧
    (∀ st ∈ [SlotState.collecting, .closed, .queued, .applying, .free],
      (endedWith st).recordOf 0 = some { record with endStatus := some .aborted } ∧ ((endedWith st).slot 0).state = st ∧
      ((endedWith st).slot 0).bank = 0) ∧
    (∀ v ∈ (endedWith .free).capture.slots, v.state = .free) ∧
    (∃ v ∈ (endedWith .applying).capture.slots, v.bank = 0 ∧ v.state ≠ .free) := by decide

/-- A part with tile 0 in a health state. -/
def withHealth (h : HealthState) : State :=
  planned.onNotice fun n => { n with tiles := ⟨h, 0, 0, 0⟩ :: List.replicate 63 ⟨.normal, 0, 0, 0⟩ }

theorem witness_ReleaseTaken :
    ((given State.reset 9 request).Dispatched 9 request ∧ State.reset.part ≠ .planned) ∧
    ((given planned 9 { request with tile := 64 }).Dispatched 9 { request with tile := 64 } ∧
      planned.notice.tiles.length = 64) ∧
    (∀ h, (given (withHealth h) 9 request).Dispatched 9 request ∧
      (given (withHealth h) 9 request).notice.tiles = [] ++ ⟨h, 0, 0, 0⟩ :: List.replicate 63 ⟨.normal, 0, 0, 0⟩) :=
  ⟨⟨given_dispatched rfl, by decide⟩, ⟨given_dispatched rfl, by decide⟩, fun _ => ⟨given_dispatched rfl, rfl⟩⟩

theorem witness_RestartTaken :
    (given exposing 10 request).Dispatched 10 request ∧
    ((given planned 10 request).Dispatched 10 request ∧ (given planned 10 request).quiet = true ∧
      (given planned 10 request).expo.records = [] ∧ (given planned 10 request).prod.engine.kind = none ∧
      (given planned 10 request).pipe.applying = none ∧ (∀ e ∈ (given planned 10 request).merge.entries, e = none) ∧
      (∀ v ∈ (given planned 10 request).capture.slots, v.state = .free) ∧
      (∀ h ∈ (given planned 10 request).notice.tiles, h.state = .normal)) :=
  ⟨given_dispatched rfl, given_dispatched rfl, by decide, by decide, by decide, by decide, by decide, by decide, by decide⟩

/-- RESTART with two active exposures, and with a running job that has or has not an access in flight. -/
theorem witness_RestartTaken_halts :
    (let s := exposing.onExpo fun e => { e with records := [record, { record with bank := 1, tag := 8 }] }
     (given s 10 request).dispatched 10 = some request ∧ (s.expo.records.filter fun x => decide (x.state = .active)).length = 2) ∧
    ((given clearingJob 10 request).prod.engine.kind = some .clear ∧ (given clearingJob 10 request).jobEnding = false ∧
      (given clearingJob 10 request).flying isEngineJob = false ∧
      (fly clearingJob .clearWrite 0x80000008 (.write ⟨0#64, .correct⟩ none)).flying isEngineJob = true) := by decide

/-- The part with its RESTART in hand and the merge buffer's part of it at a stage. -/
def restarting (s : State) (started done : Bool) : State :=
  (given s 10 request).onBus fun f => { f with restart := some ⟨started, done⟩ }

/-- The merge buffer's part: a row still applied, the flush begun, a flush still waited for, the drop with another part
complete or not, and after the drop. -/
theorem witness_RestartTaken_merge :
    (∀ x ∈ [true, false], ∀ y ∈ [true, false], (restarting planned x y).bus.restart = some ⟨x, y⟩) ∧
    (restarting (exposing.onPipe fun p => { p with applying := some ⟨0, 0, 100, none⟩ }) false false).pipe.applying ≠ none ∧
    (planned.pipe.applying = none ∧
      (restarting (flushOf (.drain 0) false) true false).flushAdvance.merge.flushes ≠ []) ∧
    ((restarting (holding (entry .clean false false)) true false).flushAdvance.merge.flushes = [] ∧
      ∀ j ∈ (holding (entry .clean false false)).merge.order, (holding (entry .clean false false)).entry j ≠ none) ∧
    (let s := restarting planned true true
     s.loader.load = none ∧ (∀ v ∈ s.capture.slots, v.state = .free) ∧ s.fetch = [] ∧ s.flying isCalDiscard = false ∧
      s.pipe.applying = none ∧ s.expo.records = [] ∧ s.prod.engine.kind = none) ∧
    (restarting exposing true true).expo.records ≠ [] := by decide

/-- R139: a RESTART marks the descriptor read in progress, and its copy is discarded. -/
theorem test_restart_discards_the_read :
    ∃ t, exec .restart (given (planned.onExpo fun e => { e with activation := some ⟨5, 32, false⟩ }) 10 request) = .next t ∧
      t.expo.activation = some ⟨5, 32, true⟩ := ⟨_, rfl, by decide⟩

/-! ### Witnesses: the port -/

/-- A bus read and a fill wait at a fairness count, with the lock hold as given. -/
def contending (fairness : Nat) (hold : Bool) : State :=
  planned.onPort fun p => { p with
    asks := [⟨.fill, 0x80000000, none⟩, ⟨.busRead (readBeat 1 8#36 0 1), 8, none⟩]
    fairness := fairness, hold := hold }

theorem witness_ArbiterChoice :
    (contending 7 false).nextAsk = some ⟨.busRead (readBeat 1 8#36 0 1), 8, none⟩ ∧
    ((contending 8 false).nextAsk = some ⟨.fill, 0x80000000, none⟩ ∧
      ∀ x ∈ (contending 8 false).port.asks, (contending 8 false).rank x.job ≠ 1) ∧
    ((contending 8 true).nextAsk = some ⟨.busRead (readBeat 1 8#36 0 1), 8, none⟩ ∧ (contending 8 true).port.hold = true) ∧
    planned.nextAsk = none := by decide

theorem witness_FairnessMoves :
    (∀ n ∈ [0, 7], (contending n false).inReset = false ∧
      (contending n false).nextAsk = some ⟨.busRead (readBeat 1 8#36 0 1), 8, none⟩ ∧
      (contending n false).rank (.busRead (readBeat 1 8#36 0 1)) = 2 ∧
      ∃ y ∈ (contending n false).port.asks.erase ⟨.busRead (readBeat 1 8#36 0 1), 8, none⟩,
        (contending n false).rank y.job = 3) ∧
    ((contending 8 false).rank .fill = 3 ∧ (contending 8 false).nextAsk = some ⟨.fill, 0x80000000, none⟩) ∧
    (let s := asked planned ⟨.planRead 0, 0, none⟩
     s.nextAsk = some ⟨.planRead 0, 0, none⟩ ∧ 4 ≤ s.rank (.planRead 0) ∧ s.rank (.planRead 0) ≠ 1 ∧
      ¬∃ y ∈ s.port.asks.erase ⟨.planRead 0, 0, none⟩, s.rank y.job = 3) := by decide

/-- A dirty entry whose write is asked. -/
def askedBack : State :=
  asked (holding { entry .dirty false false with writeAsked := true })
    ⟨.writeBack 0, 0x80000000, some ⟨0xFF#8, 0#64⟩⟩

/-- The last unit of a rejection's report is asked. -/
def reporting : State :=
  (asked planned ⟨.reportUnit 1, 0x10008, some ⟨0xFF#8, 0#64⟩⟩).onExpo fun e => { e with
    ring := [⟨0, .pending, none, true⟩], accepted := 1
    report := some ⟨⟨0, .rejected 7 0 0 .notOpen []⟩, 1, [0#64, 0#64], 2⟩, tasks := [.report] }

/-- Each kind of ask with the state its requester is in. -/
theorem witness_GrantMade :
    (∀ j ∈ [Job.fill, .calDiscard, .recordRead 1, .busRead (readBeat 1 8#36 0 1),
        .busWrite (writeBeat 1 8#36 0 1 0#8 0#64) true, .calRead 47 .flat 3, .planRead 1447, .statusUnit 0,
        .replyUnit 1, .descriptorRead 31, .searchRead 0, .clearWrite, .renderRead 3, .renderWrite 1],
      (asked planned ⟨j, 8, none⟩).nextAsk = some ⟨j, 8, none⟩ ∧ (asked planned ⟨j, 8, none⟩).inReset = false) ∧
    (∀ due, (asked planned ⟨.viewRead (view 0 [] due), 0x80000000, none⟩).nextAsk =
      some ⟨.viewRead (view 0 [] due), 0x80000000, none⟩) ∧
    (reporting.nextAsk = some ⟨.reportUnit 1, 0x10008, some ⟨0xFF#8, 0#64⟩⟩ ∧ reporting.expo.report =
      some ⟨⟨0, .rejected 7 0 0 .notOpen []⟩, 1, [0#64, 0#64], 2⟩) ∧
    (askedBack.nextAsk = some ⟨.writeBack 0, 0x80000000, some ⟨0xFF#8, 0#64⟩⟩ ∧
      askedBack.entry 0 = some { entry .dirty false false with writeAsked := true }) := by decide

theorem witness_ReportsWritten :
    (reporting.inReset = false ∧ reporting.nextAsk = some ⟨.reportUnit 1, 0x10008, some ⟨0xFF#8, 0#64⟩⟩ ∧
      reporting.expo.report = some ⟨⟨0, .rejected 7 0 0 .notOpen []⟩, 1, [0#64, 0#64], 2⟩ ∧
      reporting.expo.ring = [⟨0, .pending, none, true⟩] ∧ reporting.part ≠ .bypass ∧ reporting.quiet = true) ∧
    (let s := planned.onExpo fun e => { e with due := [⟨0, .rejected 7 0 0 .notOpen []⟩], reportSeq := 4294967295 }
     s.inReset = false ∧ s.expo.report = none ∧ s.expo.due = ⟨0, .rejected 7 0 0 .notOpen []⟩ :: [] ∧
      s.expo.tasks = [] ∧ s.asking isExpoJob = false) := by decide

/-- An ended exposure whose tile saturated, with a threshold on, beside a FINISHED descriptor. -/
def endedReport : State :=
  ((exposingWith fun r => { r with state := .draining, endStatus := some .complete, included := [⟨0, 5, 4294967295, 0⟩] }).onExpo
    fun e => { e with ring := [⟨0, .active, none, true⟩, ⟨1, .finished, none, false⟩, ⟨2, .pending, none, false⟩] }).onLoader
      fun l => { l with plan := some { plan with satThreshold := 5 }, pendingMark := true }

theorem witness_ReportsWritten_ended :
    endedReport.recordOf 0 = some { record with
      state := .draining, endStatus := some .complete, included := [⟨0, 5, 4294967295, 0⟩] } ∧
    endedReport.loader.plan = some { plan with satThreshold := 5 } ∧ endedReport.part ≠ .bypass ∧ [0].Nodup ∧
    (endedReport.expo.ring.map fun c => if c.number = 0 then { c with state := .finished, due := false } else c) =
      [⟨0, .finished, none, false⟩, ⟨1, .finished, none, false⟩] ++ [⟨2, .pending, none, false⟩] ∧
    (endedReport.loader.pendingMark = true ∧ endedReport.loader.load = none ∧ endedReport.restartInHand = false ∧
      endedReport.asking isPlanRead = false ∧ endedReport.expo.records.filter (fun y => decide (y.bank ≠ 0)) = []) ∧
    exposing.loader.pendingMark = false ∧ endedReport.notice.tiles[0]? = some ⟨.normal, 0, 0, 0⟩ := by decide

/-- R192, R193: a count at its threshold warns the tile, and a lifetime counter stops at its 32 bits. -/
theorem test_tile_warned_at_threshold :
    (endedReport.finishDescriptor ⟨⟨0, .ended 0⟩, 1, [], 0⟩).notice.tiles[0]? = some ⟨.warned, 5, 4294967295, 0⟩ := by decide

theorem witness_UnitOrder :
    (∀ x ∈ planned.port.inFlight, x.isWrite = true → x.unit ≠ 8) ∧
    ((fly planned .clearWrite 8 (.write ⟨5#64, .correct⟩ none)).port.inFlight =
      [] ++ ⟨.clearWrite, 8, .write ⟨5#64, .correct⟩ none⟩ :: []) ∧
    (0xFE#8 ≠ 0xFF#8 ∧ 0xFE#8 ≠ 0#8) := by decide

/-! ### Witnesses: the merge buffer -/

/-- The first cell held and a pixel on it waiting. -/
def waitingFor (e : Entry) (w : Waiting) : State :=
  (holding e).onPipe fun p => { p with
    applying := some ⟨0, 1, 100, some (⟨0x80000000, 0, 7, 0, 0, 2, 0, .value 5 false⟩, w)⟩ }

/-- A dirty entry that a flush waits for. -/
def flushing : State :=
  (holding (entry .dirty false false)).onMerge fun m => { m with flushes := [⟨.freeze 0, [⟨0, false, false⟩]⟩] }

/-- A flush whose one entry is being written. -/
def flushingWritten : State :=
  (holding (entry .writing false false)).onMerge fun m => { m with flushes := [⟨.freeze 0, [⟨0, true, false⟩]⟩] }

theorem witness_WriteBacks :
    (let s := waitingFor (entry .dirty false false) .allocation
     s.inReset = false ∧ s.asking isWriteBack = false ∧ s.forcedWrite = none ∧
      s.merge.order = [] ++ 0 :: [] ∧ s.entry 0 = some (entry .dirty false false) ∧ s.allocationWaits = true) ∧
    (flushing.asking isWriteBack = false ∧ flushing.forcedWrite = none ∧ flushing.merge.order = [] ++ 0 :: [] ∧
      flushing.entry 0 = some (entry .dirty false false) ∧ flushing.allocationWaits = false ∧ flushing.inFlush 0 = true) ∧
    (let s := holding (entry .dirty false false)
     s.allocationWaits = false ∧ s.dirtyCount < 32 ∧ s.forcedWrite = none ∧
      ∀ j ∈ s.merge.order, eligible (s.entry j) = true → s.inFlush j = false) ∧
    (flushingWritten.allocationWaits = false ∧ flushingWritten.flushDraws = true ∧ flushingWritten.forcedWrite = none ∧
      flushingWritten.asking isWriteBack = false ∧
      ∀ j ∈ flushingWritten.merge.order, eligible (flushingWritten.entry j) = true →
        flushingWritten.inFlush j = false) ∧
    ((∃ rest, (fly (holding (entry .writing false false)) (.writeBack 0) 0x80000000 (.write ⟨5#64, .correct⟩ none)).Completes
        isWriteBack 0 (.writeBack 0) 0x80000000 ⟨5#64, .correct⟩ none rest) ∧
      (fly (holding (entry .writing false false)) (.writeBack 0) 0x80000000 (.write ⟨5#64, .correct⟩ none)).entry 0 =
        some (entry .writing false false)) :=
  ⟨by decide, by decide, by decide, by decide, ⟨[], completes_of rfl rfl⟩, by decide⟩

/-- A locked read held on a dirty entry forces its write; one held on an entry being written does not. -/
theorem witness_WriteBacks_forced :
    ∀ st ∈ [EntryState.dirty, .writing],
      let s := (holding (entry st false false)).onBus fun f => { f with heldCells := [lockedBeat 0x80000000#36 false 1] }
      s.bus.heldCells = [] ++ lockedBeat 0x80000000#36 false 1 :: [] ∧ s.inReset = false ∧ s.asking isWriteBack = false ∧
        (lockedBeat 0x80000000#36 false 1).locked = true ∧ s.entryOf (lockedBeat 0x80000000#36 false 1).unit = some 0 ∧
        s.entry 0 = some (entry st false false) ∧ (eligible (s.entry 0) = true ↔ st = .dirty) := by decide

/-- A write asked already, and no eligible entry though an allocation waits. -/
theorem witness_WriteBacks_none :
    (asked (holding (entry .dirty true false)) ⟨.writeBack 0, 0x80000000, none⟩).asking isWriteBack = true ∧
    ∀ j ∈ (waitingFor (entry .writing false false) .allocation).merge.order,
      eligible ((waitingFor (entry .writing false false) .allocation).entry j) = false := by decide

/-- Thirty-two dirty entries and nothing that waits. -/
def manyDirty : State :=
  (inState .opened).onMerge fun m => { m with
    entries := (List.range 32).map (fun i => some { entry .dirty false false with addr := 0x80000000 + 8 * i }) ++
      List.replicate 32 none
    order := List.range 32 }

theorem witness_WriteBacks_full :
    manyDirty.dirtyCount = 32 ∧ manyDirty.forcedWrite = none ∧ manyDirty.allocationWaits = false ∧
      manyDirty.merge.order = [] ++ 0 :: (List.range 31).map (· + 1) ∧
      manyDirty.flushDraws = false := by decide

/-- The fill of the waiting pixel's cell in flight, with a read of two masters and a view read held on the cell. -/
def filling (found : EccCondition) : State :=
  fly ((waitingFor (entry .filling true false) .fill).onBus fun f => { f with
    heldCells := [cellRead, { cellRead with master := 2 }], views := [view 0 [] false] }) .fill 0x80000000 (.read 5#64 found)

theorem witness_FillDelivered :
    ∀ f, (filling f).Delivers isFill 0 .fill 0x80000000 5#64 f [] ∧ (filling f).entryOf 0x80000000 = some 0 ∧
      (filling f).entry 0 = some (entry .filling true false) ∧
      (filling f).waitingPixel = some (⟨0x80000000, 0, 7, 0, 0, 2, 0, .value 5 false⟩, .fill) ∧
      (∀ b ∈ (filling f).bus.heldCells, b.unit = (entry .filling true false).addr ∧ b.write = false ∧ b.locked = false) ∧
      ∀ v ∈ (filling f).bus.views, v.base + (v.first + v.values.length) * 8 = 0x80000000 := by
  intro f; cases f <;> exact ⟨delivers_of rfl rfl, by decide, by decide, by decide, by decide, by decide⟩

/-! ### Witnesses: the pixel pipeline and calibration -/

/-- A row of the segment in slot 0, its first pixel received, with its flat frame as given. -/
def rowSlot (st : SlotState) (column row : Nat) (flat : FrameHold) : Slot :=
  { Slot.blank with
    state := st, tag := 7, row := row, next := 8, pixels := [(column, 100#16)], closure := some .complete,
    zero := ⟨some .absent, []⟩, dark := ⟨some .absent, []⟩, flat := flat }

/-- The row at the head of the ready queue. -/
def readyRow : State :=
  (exposing.setSlot 0 (rowSlot .queued 7 3 ⟨some .absent, []⟩)).onCapture fun c => { c with ready := [0] }

theorem witness_RowApplied :
    (readyRow.inReset = false ∧ readyRow.pipe.applying = none ∧ readyRow.capture.ready = 0 :: [] ∧
      readyRow.segment (readyRow.slot 0).segment = some segment ∧
      ((readyRow.slot 0).nextPixel 0 segment.width).isSome = true ∧ 0 < readyRow.capture.slots.length) ∧
    ((7 ≤ 7 ∧ 65535 ≤ 65535 ∧ (⟨true, 1048560⟩ : Bias).b16 ≤ 1048560 ∧ 0 ≤ 1048560) ∧
      (⟨false, 0⟩ : Bias).seeded = false) := by decide

/-- The row being applied, at its first column, over the merge buffer of `holding`. -/
def applyingRow (column row : Nat) (flat : FrameHold) : State :=
  (((exposing.setEntry 0 (some (entry .clean false false))).onMerge fun m => { m with order := [0] }).setSlot 0
    (rowSlot .applying column row flat)).onPipe fun p => { p with applying := some ⟨0, 0, 100, none⟩ }

/-- Column 3 lies off a product three cells wide; a flat of 0 is dead; column 0 falls in the held cell. -/
theorem witness_PixelPresented :
    (∀ x ∈ [(3, 0, (⟨some .absent, []⟩ : FrameHold)), (0, 0, ⟨some .loaded, [0#16]⟩), (0, 0, ⟨some .loaded, [1#16]⟩)],
      (applyingRow x.1 x.2.1 x.2.2).inReset = false ∧
      (applyingRow x.1 x.2.1 x.2.2).pipe.applying = some ⟨0, 0, 100, none⟩ ∧
      ((applyingRow x.1 x.2.1 x.2.2).slot 0).nextPixel 0 segment.width = some (x.1, 100#16) ∧
      (applyingRow x.1 x.2.1 x.2.2).segment 0 = some segment ∧ (applyingRow x.1 x.2.1 x.2.2).recordOf 0 = some record ∧
      record.map.segments.find? (fun y => decide (y.segment = 0)) = some ⟨0, .ident, 0, 0⟩) ∧
    record.map.cell ⟨0, .ident, 0, 0⟩ 3 0 = none ∧ record.map.cell ⟨0, .ident, 0, 0⟩ 0 0 = some 0 ∧
    (⟨some .loaded, [0#16]⟩ : FrameHold).at 0 = some 0#16 ∧
    (let s := applyingRow 0 0 ⟨some .loaded, [1#16]⟩
     (classify (s.slot 0) segment record 100 0 100).isSome = true ∧ s.entryOf 0x80000000 = some 0 ∧
      s.entry 0 = some (entry .clean false false) ∧ s.bus.lock = none ∧ s.bus.heldCells = []) := by decide

/-- The merge buffer of an exposure: what it holds, with the last entry's place as given. -/
def buffered (front : Option Entry) (last : Option Entry) : State :=
  exposing.onMerge fun m => { m with
    entries := front :: List.replicate 62 (some { entry .dirty false false with addr := 0x80000008 }) ++ [last]
    order := [0, 63] }

/-- Each case of an allocation, and a fill that is asked, or held up by a lock or by a write of the cell. -/
theorem witness_PixelPresented_allocates :
    ((buffered (some (entry .dirty false false)) none).merge.entries =
        (some (entry .dirty false false) :: List.replicate 62 (some { entry .dirty false false with addr := 0x80000008 })) ++
          none :: [] ∧
      ∀ e ∈ some (entry .dirty false false) :: List.replicate 62 (some { entry .dirty false false with addr := 0x80000008 }),
        e ≠ none) ∧
    (let s := buffered (some (entry .dirty false false)) (some (entry .clean false false))
     (∀ e ∈ s.merge.entries, e ≠ none) ∧ s.merge.order = [0] ++ 63 :: [] ∧ s.entry 63 = some (entry .clean false false) ∧
      s.entry 0 = some (entry .dirty false false)) ∧
    (let s := buffered (some (entry .dirty false false)) (some (entry .writing false false))
     (∀ e ∈ s.merge.entries, e ≠ none) ∧ ∀ j ∈ s.merge.order, (s.entry j).map (fun e => e.state) ≠ some .clean) ∧
    ((holding (entry .filling false false)).merge.entries =
        [] ++ some (entry .filling false false) :: List.replicate 63 none ∧
      (holding (entry .filling false false)).bus.lock = none ∧ (holding (entry .filling false false)).port.asks = []) ∧
    ((lockOn (holding (entry .filling false false)) 0x80000000).bus.lock = some ⟨1, 0x80000000, false⟩ ∧
      (let s := asked (holding (entry .filling false false)) ⟨.busWrite (cellWrite 1#8) false, 0x80000000, none⟩
       ∃ k ∈ s.port.asks, isBusWrite k.job = true ∧ k.unit = 0x80000000)) ∧
    (let s := applyingRow 0 0 ⟨some .absent, []⟩
     (lockOn s 0x80000000).bus.lock = some ⟨1, 0x80000000, false⟩ ∧
      (s.onMerge fun m => { m with entries := List.replicate 64 none }).entryOf 0x80000000 = none) := by decide

/-- A row with a pixel left, one that the row map still waits for, and the one that completes it. -/
theorem witness_PixelPresented_finishes :
    (∃ x ∈ ((applyingRow 0 0 ⟨some .absent, []⟩).slot 0).pixels, 0 ≤ x.1 ∧ x.1 < segment.width) ∧
    (let a : Applying := ⟨0, 8, 100, none⟩
     ¬∃ x ∈ ((applyingRow 7 3 ⟨some .absent, []⟩).slot 0).pixels, a.column ≤ x.1 ∧ x.1 < segment.width) ∧
    ((applyingRow 7 3 ⟨some .absent, []⟩).recordOf 0 = some record ∧ record.rowMap.length + 1 ≠ 4) ∧
    (let r := { record with rowMap := [(0, 0), (0, 1), (0, 2)] }
     r.state = .active ∧ r.endStatus = none ∧ r.rowMap.length + 1 =
      (r.map.segments.map fun x => ((exposing.segment x.segment).map fun g => g.rows).getD 0).sum) := by decide

theorem witness_PixelArithmetic :
    (65534 ≤ 65534 ∧ (-32768 : Int) ≤ -32768 ∧ 65535 ≤ 65535 ∧ 4194303 ≤ 4194303) ∧ 0 < record.map.bin := by decide

/-- A beat of a calibration row in flight for the row being collected. -/
def fetching (beats : Nat) (got : List (Nat × Word)) (found : EccCondition) : State :=
  fly (collecting.setFetch [⟨0, .flat, 0x7000, beats, beats, got⟩]) (.calRead 0 .flat (beats - 1)) 0x7008
    (.read 5#64 found)

theorem witness_CalBeats :
    (fly planned .calDiscard 0x7008 (.read 5#64 .uncorrectable)).Delivers isCalJob 0 .calDiscard 0x7008 5#64 .uncorrectable [] ∧
    (∀ found, (fetching 2 [] found).Delivers isCalJob 0 (.calRead 0 .flat 1) 0x7008 5#64 found [] ∧
      (fetching 2 [] found).fetch = [] ++ ⟨0, .flat, 0x7000, 2, 2, []⟩ :: []) ∧
    (∀ found, (fetching 2 [(0, 1#64)] found).Delivers isCalJob 0 (.calRead 0 .flat 1) 0x7008 5#64 found [] ∧
      (fetching 2 [(0, 1#64)] found).fetch = [] ++ ⟨0, .flat, 0x7000, 2, 2, [(0, 1#64)]⟩ :: []) :=
  ⟨delivers_of rfl rfl, fun _ => ⟨delivers_of rfl rfl, rfl⟩, fun _ => ⟨delivers_of rfl rfl, rfl⟩⟩

/-- A fetch with a beat to ask, one with every beat asked, and one behind a read that waits. -/
theorem witness_CalBeats_asks :
    (let s := collecting.setFetch [⟨0, .flat, 0x7000, 2, 1, []⟩]
     s.asking isCalRead = false ∧ s.fetch = ⟨0, .flat, 0x7000, 2, 1, []⟩ :: [] ∧ 1 < 2) ∧
    collecting.fetch = [] ∧ (asked collecting ⟨.calRead 0 .flat 0, 0x7000, none⟩).asking isCalRead = true := by decide

/-! ### Witnesses: exposures -/

theorem witness_AttemptMade :
    (let s := planned.onExpo fun e => { e with ring := [⟨255, .pending, some 7, false⟩] }
     s.inReset = false ∧ s.part = .planned ∧ s.restartInHand = false ∧ s.expo.activation = none ∧
      s.expo.ring.find? (fun r => decide (r.state = .pending)) = some ⟨255, .pending, some 7, false⟩) ∧
    (searching.expo.ring.find? (fun r => decide (r.state = .pending)) = some ⟨0, .pending, none, false⟩ ∧
      searching.part = .planned ∧ searching.restartInHand = false ∧ searching.expo.activation = none ∧
      searching.loader.pendingMark = false ∧ searching.expo.records.length < 2 ∧ searching.expo.waitBank = false ∧
      searching.expo.waitProduct = none ∧ searching.expo.tasks = [] ∧ searching.asking isExpoJob = false) := by decide

/-- A candidate whose every beat has been granted, with the first five units of its copy: marker, tag 9, product and
bank from `w0`, exposure time, transparency and limit in `w1`, tile count in `w3`. -/
def candidateWith (discard : Bool) (s : State) (w0 w1 w3 : Word) (found : EccCondition) : State :=
  (s.onExpo fun e => { e with
    ring := e.ring ++ [⟨5, .pending, none, false⟩], activation := some ⟨5, 32, discard⟩, tasks := [.activation] }).onPort fun p =>
      { p with inFlight := [⟨.descriptorRead 0, 0x8500, .read w0 found⟩, ⟨.descriptorRead 1, 0x8508, .read w1 .correct⟩,
        ⟨.descriptorRead 3, 0x8518, .read w3 .correct⟩] }

/-- The same, with no RESTART taken since its read began. -/
def candidateIn : State → Word → Word → Word → EccCondition → State := candidateWith false

/-- The descriptor that `candidateIn` carries. -/
def copyOf (s : State) : Descriptor :=
  Descriptor.ofBytes (bytesOf (gathered 32 ((s.deliverAll isDescriptorRead).1.filterMap fun x => match x.1 with
    | .descriptorRead k => some (k, x.2.1)
    | _ => none)))

/-- What the hypotheses of CandidateExamined ask before its clauses part. -/
def examinable (s : State) : Bool :=
  !s.inReset && decide (s.part = .planned) && !s.loader.pendingMark && !s.restartInHand &&
    decide (s.expo.activation = some ⟨5, 32, false⟩) && !s.asking isDescriptorRead &&
    decide (s.expo.ring.find? (fun r => decide (r.number = 5)) = some ⟨5, .pending, none, false⟩) &&
    decide (s.loader.plan = some plan) && canEndAll isDescriptorRead [] s.port.inFlight

def goodHead : Word := 0x00000009364E5845#64
def goodTimes : Word := 0x00014000003FFFFF#64

theorem witness_CandidateExamined_damaged :
    let s := candidateIn (inState .opened) 0#64 goodTimes 0#64 .uncorrectable
    examinable s = true ∧ (∃ x ∈ (s.deliverAll isDescriptorRead).1, x.2.2 = .uncorrectable) := by decide

/-- A candidate whose read a RESTART overtook. -/
theorem witness_CandidateExamined_discards :
    let s := candidateWith true (inState .opened) goodHead goodTimes 0#64 .correct
    s.inReset = false ∧ s.part = .planned ∧ s.loader.pendingMark = false ∧ s.restartInHand = false ∧
    s.expo.activation = some ⟨5, 32, true⟩ ∧ s.asking isDescriptorRead = false ∧
    canEndAll isDescriptorRead [] s.port.inFlight = true ∧
    s.expo.ring.find? (fun r => decide (r.number = 5)) = some ⟨5, .pending, none, false⟩ := by decide

theorem witness_CandidateExamined_waits :
    (let s := candidateIn exposing goodHead goodTimes 0#64 .corrected
     examinable s = true ∧ (∀ x ∈ (s.deliverAll isDescriptorRead).1, x.2.2 ≠ .uncorrectable) ∧
      (copyOf s).marker = 0x364E5845 ∧ s.recordOf (copyOf s).bank ≠ none) ∧
    (let s := candidateIn (planned.setProduct 3 ⟨.opened, .discarding⟩) 0x00000309364E5845#64 goodTimes 0#64 .correct
     examinable s = true ∧ s.recordOf (copyOf s).bank = none ∧ (copyOf s).product < 4 ∧
      (s.product (copyOf s).product).mark ≠ .none) := by decide

theorem witness_CandidateExamined_refused :
    (let s := candidateIn planned 0x00000409364E5845#64 goodTimes 0#64 .correct
     examinable s = true ∧ 4 ≤ (copyOf s).product ∧ s.productEntry (copyOf s).product = none) ∧
    (let s := candidateIn (exposingWith fun r => { r with bank := 1, tag := 9 }) goodHead goodTimes 0#64 .correct
     examinable s = true ∧ s.recordOf (copyOf s).bank = none ∧ s.productEntry (copyOf s).product = some product ∧
      ∃ r ∈ s.expo.records, r.tag = (copyOf s).tag) := by decide

theorem witness_CandidateExamined_checked :
    (let s := candidateIn (inState .opened) goodHead 0x0000400000000000#64 0#64 .correct
     examinable s = true ∧ (∀ r ∈ s.expo.records, r.tag ≠ (copyOf s).tag) ∧ (copyOf s).rangeOk plan = false) ∧
    (let s := candidateIn (inState .opened) goodHead goodTimes 0x40#64 .correct
     examinable s = true ∧ (copyOf s).rangeOk plan = true ∧ (copyOf s).count = 64 ∧ (s.nullTiles (copyOf s) plan).1 ≠ []) ∧
    (let s := candidateIn ((inState .opened).onNotice fun n => { n with tiles := List.replicate 64 ⟨.quarantined, 0, 0, 0⟩ })
       goodHead goodTimes 0#64 .correct
     (copyOf s).rangeOk plan = true ∧ (s.nullTiles (copyOf s) plan).1 = []) := by decide

theorem witness_TimerExpired :
    (exposing.inReset = false ∧ exposing.recordOf 0 = some record ∧ record.state = .active ∧ record.endStatus = none ∧
      (exposing.bank 0).bound = true ∧ exposing.capture.held = [] ∧ exposing.slotsOf 0 SlotState.isCollecting = [] ∧
      exposing.slotsOf 0 SlotState.isHeld = []) ∧
    (readyRow.recordOf 0 = some record ∧ (readyRow.bank 0).bound = true ∧
      readyRow.slotsOf 0 SlotState.isCollecting = [] ∧ readyRow.slotsOf 0 SlotState.isHeld ≠ []) := by decide

/-- An exposure with a row being collected and a raw beat held. -/
theorem witness_TimerExpired_rows :
    let s := collecting.onCapture fun c => { c with held := [heldBeat 3 2 8] }
    s.inReset = false ∧ s.recordOf 0 = some record ∧ s.slotsOf 0 SlotState.isCollecting = [0] ∧
      s.capture.held ≠ [] := by decide

/-! ### Witnesses: the region engine and the notice unit -/

/-- A job with some of its writes granted. -/
def job (kind : JobKind) (done next outUnit : Nat) (values : List (Nat × BitVec 16)) : State :=
  (inState (if kind = .clear then .clearing else .rendering)).onEngine fun _ =>
    ⟨some kind, 0, 6, done, next, 0x80000000, 2, 0xA0000000, outUnit, values, none⟩

theorem witness_JobWrites :
    (∀ n ∈ [5, 6], (job .clear n n 0 []).prod.engine.halting = none ∧ (job .clear n n 0 []).prod.engine.kind = some .clear ∧
      (job .clear n n 0 []).asking isEngineJob = false) ∧
    (fly (job .clear 6 6 0 []) .clearWrite 0x80000028 (.write ⟨0#64, .correct⟩ none)).Completes isClearWrite 0 .clearWrite
      0x80000028 ⟨0#64, .correct⟩ none [] ∧
    (fly (job .render 6 6 2 []) (.renderWrite 2) 0xA0000008 (.write ⟨0#64, .correct⟩ (some .corrected))).Completes
      isRenderWrite 0 (.renderWrite 2) 0xA0000008 ⟨0#64, .correct⟩ (some .corrected) [] :=
  ⟨by decide, completes_of rfl rfl, completes_of rfl rfl⟩

/-- A halted job, by its cause. -/
def halted (kind : JobKind) (cause : HaltCause) : State :=
  (job kind 2 4 0 []).onEngine fun e => { e with halting := some cause }

/-- A halted job with its last granted access in flight. -/
theorem witness_JobWrites_halted :
    (∀ kind cause, (halted kind cause).prod.engine.kind = some kind ∧ (halted kind cause).prod.engine.halting = some cause ∧
      (halted kind cause).asking isEngineJob = false) ∧
    ∀ cause, (fly (halted .clear cause) .clearWrite 0x80000008 (.write ⟨0#64, .correct⟩ none)).Completes isClearWrite 0
        .clearWrite 0x80000008 ⟨0#64, .correct⟩ none [] ∧
      (fly (halted .render cause) (.renderWrite 4) 0xA0000000 (.write ⟨0#64, .correct⟩ none)).Completes isRenderWrite 0
        (.renderWrite 4) 0xA0000000 ⟨0#64, .correct⟩ none [] ∧
      ∀ f, (fly (halted .render cause) (.renderRead 3) 0x80000018 (.read 5#64 f)).Delivers isRenderRead 0 (.renderRead 3)
        0x80000018 5#64 f [] :=
  ⟨fun kind cause => by cases kind <;> cases cause <;> decide,
    fun _ => ⟨completes_of rfl rfl, completes_of rfl rfl, fun _ => delivers_of rfl rfl⟩⟩

/-- Two reads of a halted render in flight: the first delivered leaves the halt waiting. -/
theorem witness_RenderReads_halted :
    ((halted .render .request).onPort fun p => { p with
      inFlight := [⟨.renderRead 2, 0x80000010, .read 5#64 .correct⟩, ⟨.renderRead 3, 0x80000018, .read 6#64 .correct⟩] }).Delivers
      isRenderRead 0 (.renderRead 2) 0x80000010 5#64 .correct [⟨.renderRead 3, 0x80000018, .read 6#64 .correct⟩] :=
  ⟨rfl, rfl, [], _, rfl, rfl, rfl, rfl⟩

/-- Cell 5, the last, is being read for the second output beat; or cell 1 for the first. -/
theorem witness_RenderReads :
    (∀ f, (fly (job .render 4 6 1 [(0, 1#16)]) (.renderRead 5) 0x80000028 (.read 5#64 f)).Delivers isRenderRead 0
      (.renderRead 5) 0x80000028 5#64 f []) ∧
    ([(0, 1#16)] : List (Nat × BitVec 16)).length + 1 = min 4 (6 - 4 * 1) ∧
    ((fly (job .render 0 4 0 [(0, 1#16)]) (.renderRead 1) 0x80000008 (.read 5#64 .correct)).Delivers isRenderRead 0
      (.renderRead 1) 0x80000008 5#64 .correct [] ∧ 4 / 4 ≠ 0 ∧ (1 : Nat) + 1 ≠ min 4 (6 - 4 * 0)) ∧
    ((fly (job .render 0 2 0 []) (.renderRead 0) 0x80000000 (.read 5#64 .correct)).Delivers isRenderRead 0
      (.renderRead 0) 0x80000000 5#64 .correct [] ∧ 2 < 6 ∧ 2 / 4 = 0 ∧ (0 : Nat) + 1 ≠ min 4 (6 - 4 * 0)) ∧
    (asked (job .render 0 2 0 []) ⟨.renderRead 1, 0x80000008, none⟩).asking isEngineJob = true :=
  ⟨fun _ => delivers_of rfl rfl, by decide, ⟨delivers_of rfl rfl, by decide, by decide⟩,
    ⟨delivers_of rfl rfl, by decide, by decide, by decide⟩, by decide⟩

theorem witness_NoticeWritesStart :
    (let s := planned.onNotice fun n => { n with replyWaiting := some ⟨5, 2, .done, Detail.zero⟩ }
     s.inReset = false ∧ s.notice.status = none ∧ s.notice.reply = none ∧ s.asking isNoticeUnit = false ∧
      s.notice.replyWaiting = some ⟨5, 2, .done, Detail.zero⟩) ∧
    (planned.notice.replyWaiting = none ∧ planned.notice.wanted = true ∧ planned.notice.status = none) ∧
    (State.onNotice (fun n => { n with wanted := false }) planned).notice.wanted = false := by decide

theorem witness_NoticeWritesEnd :
    (let s := fly ((given planned 2 request).onNotice fun n => { n with reply := some ⟨[1#64, 2#64], 2⟩ }) (.replyUnit 1)
       0x4048 (.write ⟨2#64, .correct⟩ none)
     s.inReset = false ∧ s.asking isReplyUnit = false ∧ s.asking isStatusUnit = false ∧
      s.notice.reply = some ⟨[1#64, 2#64], 2⟩ ∧ canEndAll isReplyUnit [] s.port.inFlight = true ∧
      s.restartInHand = false) ∧
    (let s := fly (((given planned 10 request).onNotice fun n => { n with reply := some ⟨[1#64], 1⟩ }).onLoader fun l =>
       { l with pendingMark := true }) (.replyUnit 0) 0x4040 (.write ⟨1#64, .correct⟩ none)
     s.notice.reply = some ⟨[1#64], 1⟩ ∧ canEndAll isReplyUnit [] s.port.inFlight = true ∧ s.restartInHand = true ∧
      s.loader.pendingMark = true ∧ s.loader.load = none ∧ s.expo.records = [] ∧ s.asking isPlanRead = false) ∧
    (let s := fly (planned.onNotice fun n => { n with status := some ⟨[1#64], 1, 0x1FF#9, true⟩ }) (.statusUnit 144)
       0x4580 (.write ⟨1#64, .correct⟩ none)
     s.notice.status = some ⟨[1#64], 1, 0x1FF#9, true⟩ ∧ canEndAll isStatusUnit [] s.port.inFlight = true ∧
      ∀ x ∈ s.port.inFlight, isReportUnit x.job = false) := by decide

/-! ### Witnesses: arithmetic, records and checks -/

theorem witness_Normalised :
    (0 < 1 ∧ (0 : Int) ≤ 2147483647 ∧ (65535 : Int) * ((1 : Nat) * 2 ^ 0) ≤ 2 * 2147483647) ∧
    (2 * 5 : Int) < 65535 * ((1 : Nat) * 2 ^ 1) := by decide

/-- Full, rejected, applied and clamped on both sides. -/
theorem witness_MergeDecided :
    (⟨0, 65535, 0#8, 0⟩ : CellRecord).hits = 65535 ∧
    (0 < 2 ∧ 2 ≤ 2 ∧ ((10 + (Int.tdiv 100 2).natAbs / 2 ^ 2 : Nat) : Int) < |(73 : Int) - Int.tdiv 100 2|) ∧
    ¬((10 + (Int.tdiv 100 2).natAbs / 2 ^ 2 : Nat) : Int) < |(72 : Int) - Int.tdiv 100 2| ∧
    ((2147483647 : Int) < 2147483647 + 1 ∧ (-2147483648 : Int) + -1 < -2147483648) := by
  refine ⟨rfl, ⟨by decide, by decide, by decide⟩, by decide, by decide, by decide⟩

theorem witness_CellRecordRoundTrip :
    (⟨-2147483648, 65535, 0xFF#8, 255⟩ : CellRecord).hits ≤ 65535 ∧
    CellRecord.ofWord (CellRecord.word ⟨-2147483648, 65535, 0xFF#8, 255⟩) = ⟨-2147483648, 65535, 0xFF#8, 255⟩ := by decide

theorem witness_GenerationChecked :
    (0xFFFFFFFE#32 : BitVec 32) ≠ ~~~0#32 ∧ (0xFFFFFFFE#32 : BitVec 32) = ~~~1#32 ∧ 2 ≠ (1#32).toNat ∧
    (0xFFFFFFFF#32 : BitVec 32) = ~~~0#32 ∧ (1 : Nat) = (1#32).toNat := by decide

/-- A plan body of one tile and one segment over bank 0, with generation 1 and a check field. -/
def bodyUnits (check : Nat) : List Word :=
  [0x1364E4C50#64, BitVec.ofNat 64 (check + 0x1000100000000), 0x100000000#64, 0#64, 0#64, 0#64, 0#64, 0#64,
    0x1000000001#64] ++ List.replicate 383 0#64 ++ [0x800000000#64, 4#64] ++ List.replicate 1054 0#64

def bodyOf (check : Nat) : Body := bytesOf (bodyUnits check)

/-- The check sum of the body is 911166576. -/
theorem body_header : ∀ check ∈ [0, 911166576], (bodyOf check).header 0 4 = 0x364E4C50 ∧ (bodyOf check).header 4 4 = 1 ∧
    (bodyOf check).header 8 4 = check ∧ ((bodyUnits check).map fun w => w.toNat % 2 ^ 32 + w.toNat / 2 ^ 32).sum = 911166576 + check ∧
    (bodyUnits check).length = 1448 := by decide +kernel

theorem body_sum (check : Nat) (h : check ∈ [0, 911166576]) : (bodyOf check).sum = 911166576 := by
  obtain ⟨-, -, hc, hs, hl⟩ := body_header check h
  have hw := wordSum_bytesOf (bodyUnits check)
  rw [hs, hl, show 2 * 1448 = 2893 + 1 + 1 + 1 from rfl, wordSum, wordSum, wordSum, field_drop, List.drop_drop, field_drop,
    List.drop_drop] at hw
  rw [Body.sum_eq]
  change field (bodyOf check) 0 4 + (field (bodyOf check) 4 4 + ((bodyOf check).header 8 4 +
    wordSum 2893 ((bodyOf check).drop 12))) = _ at hw
  omega

/-- The plan of the body overlaps nothing in 8 GiB, and ends past one byte less. -/
theorem body_passes :
    (bodyOf 911166576).rangeCheck = none ∧ (bodyOf 911166576).plan.overlapCheck 0 0x200000000 = none ∧
      (bodyOf 911166576).plan.overlapCheck 0 0x1FFFFFFFF = some ⟨.region, 1, 0, 0, 0⟩ := by decide +kernel

/-- A commit of generation 1. -/
def commitLoader : Loader := { Loader.initial with argument := 1#32, complement := 0xFFFFFFFE#32 }

/-- A load of the body with what was seen while it was read. -/
def loadSeen (changed : Bool) (bad : Option Nat) : Load := ⟨1448, [], bad, changed, true⟩

/-- Every check passes on the body: its clauses are reached one after another. -/
theorem witness_ChecksInOrder :
    Body.header [] 0 4 ≠ 0x364E4C50 ∧
    ((bodyOf 0).header 0 4 = 0x364E4C50 ∧ (bodyOf 0).sum ≠ (bodyOf 0).header 8 4 ∧
      generationCheck commitLoader.argument commitLoader.complement 1 commitLoader.generation = none ∧
      generationCheck commitLoader.argument commitLoader.complement 1 1 = some ⟨.header, 1, 5, 0, 0⟩) ∧
    ((bodyOf 911166576).header 0 4 = 0x364E4C50 ∧ (bodyOf 911166576).header 4 4 = 1 ∧
      (bodyOf 911166576).sum = (bodyOf 911166576).header 8 4 ∧ (loadSeen true none).changed = true ∧
      (loadSeen false (some 1447)).firstBad = some 1447 ∧ (bodyOf 911166576).rangeCheck = none ∧
      (bodyOf 911166576).plan.overlapCheck 0 0x200000000 = none ∧
      (bodyOf 911166576).plan.overlapCheck 0 0x1FFFFFFFF = some ⟨.region, 1, 0, 0, 0⟩ ∧
      inUseCheck none (bodyOf 911166576).plan (fun _ => .empty) = none) := by
  refine ⟨by decide, ⟨(body_header 0 (by decide)).1, ?_, by decide, by decide⟩, (body_header _ (by decide)).1,
    (body_header _ (by decide)).2.1, ?_, rfl, rfl, body_passes.1, body_passes.2.1, body_passes.2.2, rfl⟩
  · rw [body_sum 0 (by decide), (body_header 0 (by decide)).2.2.1]; decide
  · rw [body_sum _ (by decide), (body_header _ (by decide)).2.2.1]

/-- The first field and the first condition of a table that fail, and a product that changes. -/
theorem witness_ChecksInOrder_fails :
    (Body.headerRange [] = some 0x0D ∧ ¬(1 ≤ Body.header [] 0x0C 2)) ∧
    (Body.tileRange [] 0 = some 1 ∧ Body.segmentRange [] 0 = some 1 ∧ Body.product [] 0 0 8 = 0) ∧
    (let b : Body := List.replicate 0x2C41 0#8 ++ [0x10#8] ++ List.replicate 0xFE 0#8
     b.product 0 0 8 = 0x1000 ∧ b.productRange 0 = some 0x19) ∧
    (let p := { plan with products := [{ product with viewBase := 0x80000028 }] }
     p.overlapCheck 0 0x200000000 = some ⟨.region, 3, 0, 0, 0⟩ ∧ plan.overlapCheck 0 0x200000000 = none) ∧
    ((plan.products.getD 0 ProductEntry.undefined).rs ≠ ({ product with rs := 3 } : ProductEntry).rs ∧
      inUseCheck (some plan) { plan with products := [{ product with rs := 3 }] } (fun _ => .opened) = none) := by decide +kernel

theorem witness_CheckSummed :
    (bodyOf 911166576).header 0 4 = 0x364E4C50 ∧
    generationCheck commitLoader.argument commitLoader.complement ((bodyOf 911166576).header 4 4) commitLoader.generation =
      none := by
  rw [(body_header _ (by decide)).2.1]; exact ⟨(body_header _ (by decide)).1, by decide⟩

theorem body_done (l : Loader) (planBase fitted : Nat) (ha : l.argument = 1#32) (hc : l.complement = 0xFFFFFFFE#32)
    (hg : l.generation = 0) (hp : l.plan = none) (hb : planBase = 0) (hf : fitted = 0x200000000) :
    (Body.verdict (bodyOf 911166576) l (loadSeen false none) planBase fitted fun _ => .empty).1 = .done := by
  obtain ⟨hm, hn, hk, -, -⟩ := body_header 911166576 (by decide)
  obtain ⟨hr, ho, -⟩ := body_passes
  have hgen : generationCheck 1#32 0xFFFFFFFE#32 1 0 = none := by decide
  have hu : inUseCheck none (bodyOf 911166576).plan (fun _ => .empty) = none := rfl
  unfold Body.verdict
  rw [if_neg (by rw [hm]; decide), hn, ha, hc, hg, hp, hb, hf, hgen]
  simp only [body_sum 911166576 (by decide), hk, hr, ho, hu, loadSeen, ne_eq, not_true_eq_false, if_false,
    Bool.false_eq_true]

/-- The last beat of a body that passes every check. -/
def bodyArrives : State :=
  fly ((given State.reset 1 request).onLoader fun _ => { commitLoader with
    pendingMark := true
    load := some ⟨1448, (List.range 1447).map fun k => (k, (bodyUnits 911166576).getD k 0#64), none, false, true⟩ })
    (.planRead 1447) 0x2D38 (.read ((bodyUnits 911166576).getD 1447 0#64) .corrected)

theorem witness_PlanBeats_done :
    bodyArrives.Delivers isPlanRead 0 (.planRead 1447) 0x2D38 ((bodyUnits 911166576).getD 1447 0#64) .corrected [] ∧
    (let got := (List.range 1447).map fun k => (k, (bodyUnits 911166576).getD k 0#64)
     got.length + 1 = 1448 ∧ (Body.verdict (bytesOf (gathered 1448 (got ++ [(1447, (bodyUnits 911166576).getD 1447 0#64)])))
      bodyArrives.loader (loadSeen false none) bodyArrives.planBase bodyArrives.fitted fun _ => .empty).1 = .done) := by
  refine ⟨delivers_of rfl rfl, by rw [List.length_map, List.length_range], ?_⟩
  rw [gathered_last (bodyUnits 911166576) 1447 (body_header _ (by decide)).2.2.2.2]
  exact body_done _ _ _ rfl rfl rfl rfl rfl rfl
end Sys2Proof.Tests
end

namespace Sys2Proof.Machine

/-! ### The sizes of the tables and the bounds of the counts (O3)

One lemma per operation: it keeps `State.Bounded`. An operation that leaves every table and count as it is keeps it by
`{ h with }`; the others say which of them they move. -/

namespace State.Bounded

variable {s : State}

theorem satAdd_le (a b : Nat) : satAdd a b ≤ 4294967295 := Nat.min_le_right _ _

/-- A fold of steps that each keep the bounds keeps them. -/
theorem foldl {α : Type} {f : State → α → State} (hf : ∀ t a, t.Bounded → (f t a).Bounded) (l : List α)
    (h : s.Bounded) : (l.foldl f s).Bounded := by
  induction l generalizing s with
  | nil => exact h
  | cons a l ih => exact ih (hf s a h)

theorem ite {c : Prop} [Decidable c] {a b : State} (ha : a.Bounded) (hb : b.Bounded) :
    (if c then a else b).Bounded := by
  split
  · exact ha
  · exact hb

/-! #### The shared updates -/

theorem setFetch (h : s.Bounded) (l : List Fetch) : (s.setFetch l).Bounded := { h with }
theorem setMem (h : s.Bounded) (m : Memory) : (s.setMem m).Bounded := { h with }
theorem setPending (h : s.Bounded) (l : List Instr) : (s.setPending l).Bounded := { h with }
theorem onLoader (h : s.Bounded) (f : Loader → Loader) : (s.onLoader f).Bounded := { h with }
theorem onEngine (h : s.Bounded) (f : Engine → Engine) : (s.onEngine f).Bounded := { h with }
theorem onRing (h : s.Bounded) (n : Nat) (f : RingEntry → RingEntry) : (s.onRing n f).Bounded := { h with }
theorem respond (h : s.Bounded) (b : BusBeat) (a : Answer) : (s.respond b a).Bounded := { h with }
theorem endLock (h : s.Bounded) : s.endLock.Bounded := { h with }
theorem keepInHand (h : s.Bounded) (n : Nat) : (s.keepInHand n).Bounded := { h with }
theorem ask (h : s.Bounded) (a : Ask) : (s.ask a).Bounded := { h with }
theorem withdraw (h : s.Bounded) (p : Job → Bool) : (s.withdraw p).Bounded := { h with }
theorem askRead (h : s.Bounded) (b : BusBeat) : (s.askRead b).Bounded := { h with }
theorem askStore (h : s.Bounded) (r : Bool) (b : BusBeat) : (s.askStore r b).Bounded := { h with }
theorem onRecord (h : s.Bounded) (k : Nat) (f : ExposureRecord → ExposureRecord) : (s.onRecord k f).Bounded :=
  { h with }
theorem recordFault (h : s.Bounded) (b : Nat) (k : FaultKind) (x y z : Nat) : (s.recordFault b k x y z).Bounded :=
  { h with }
theorem setWaiting (h : s.Bounded) (w : Option (Pixel × Waiting)) : (s.setWaiting w).Bounded := { h with }

/-! A block's update, with what it makes of the block's tables and counts. -/

theorem onBus (h : s.Bounded) {f : BusFront → BusFront} (hp : (f s.bus).protectCount ≤ 4294967295)
    (hr : (f s.bus).requestsLost ≤ 4294967295) : (s.onBus f).Bounded := { h with protects := hp, requestsLost := hr }

theorem onPipe (h : s.Bounded) {f : Pipeline → Pipeline} (hb : (f s.pipe).bias.length = 512) : (s.onPipe f).Bounded :=
  { h with bias := hb }

theorem onMerge (h : s.Bounded) {f : MergeBuffer → MergeBuffer} (he : (f s.merge).entries.length = 64)
    (ho : (f s.merge).overwritten ≤ 4294967295) : (s.onMerge f).Bounded := { h with entries := he, overwritten := ho }

theorem onExpo (h : s.Bounded) {f : ExposureCtl → ExposureCtl} (ha : (f s.expo).accepted < 256)
    (hc : (f s.expo).consume < 256) : (s.onExpo f).Bounded := { h with accepted := ha, consume := hc }

theorem onNotice (h : s.Bounded) {f : Notice → Notice} (ht : (f s.notice).tiles.length = 64) : (s.onNotice f).Bounded :=
  { h with tiles := ht }

theorem onPort (h : s.Bounded) {f : Port → Port} (hc : (f s.port).corrected ≤ 4294967295)
    (hu : (f s.port).uncorrectable ≤ 4294967295) : (s.onPort f).Bounded :=
  { h with corrected := hc, uncorrectable := hu }

theorem setSlot (h : s.Bounded) (i : Nat) (v : Slot) : (s.setSlot i v).Bounded :=
  { h with slots := (List.length_set ..).trans h.slots }

theorem setBank (h : s.Bounded) (i : Nat) (v : Bank) : (s.setBank i v).Bounded :=
  { h with banks := (List.length_set ..).trans h.banks }

theorem setEntry (h : s.Bounded) (i : Nat) (v : Option Entry) : (s.setEntry i v).Bounded :=
  { h with entries := (List.length_set ..).trans h.entries }

theorem setProduct (h : s.Bounded) (i : Nat) (v : Product) : (s.setProduct i v).Bounded :=
  { h with products := (List.length_set ..).trans h.products }

/-- Held raw beats come and go. -/
theorem setHeld (h : s.Bounded) (f : List HeldBeat → List HeldBeat) :
    (s.onCapture fun c => { c with held := f c.held }).Bounded := { h with }

/-- Slots join and leave the ready queue. -/
theorem setReady (h : s.Bounded) (f : List Nat → List Nat) :
    (s.onCapture fun c => { c with ready := f c.ready }).Bounded := { h with }

theorem finishWrite (h : s.Bounded) (b : BusBeat) : (s.finishWrite b).Bounded :=
  ite (h.respond b .done).endLock (h.respond b .done)

theorem raise (h : s.Bounded) (c : Cause) : (s.raise c).Bounded := ite h { h with }

theorem countFound (h : s.Bounded) (c : EccCondition) : (s.countFound c).Bounded := by
  unfold State.countFound
  split
  · exact h
  · cases c with
    | correct => exact h
    | corrected => exact h.onPort (satAdd_le _ _) h.uncorrectable
    | uncorrectable => exact (h.onPort h.corrected (satAdd_le _ _)).raise _

theorem reply (h : s.Bounded) (o : ReplyOutcome) (d : Detail) : (s.reply o d).Bounded := by
  unfold State.reply
  split
  · exact h
  · exact { h with }

/-! #### The port's ends of accesses -/

theorem landNth (h : s.Bounded) {pick : Job → Bool} {n : Nat} {a : Access} {t : State}
    (ht : s.landNth pick n = some (a, t)) : t.Bounded := by
  obtain ⟨_, _, _, _, -, -, -, -, rfl⟩ := State.landNth_some ht
  exact ((h.setMem _).onPort h.corrected h.uncorrectable).countFound _

theorem deliverNth (h : s.Bounded) {pick : Job → Bool} {n : Nat} {a : Access} {w : Word} {c : EccCondition} {t : State}
    (ht : s.deliverNth pick n = some (a, w, c, t)) : t.Bounded := by
  obtain ⟨_, _, -, -, -, -, rfl⟩ := State.deliverNth_some ht
  exact (h.onPort h.corrected h.uncorrectable).countFound _

theorem landBefore (h : s.Bounded) (pick : Job → Bool) (n : Nat) : (s.landBefore pick n).Bounded := by
  unfold State.landBefore
  split
  · exact h
  · exact ite h { h with }

theorem landAll (h : s.Bounded) (pick : Job → Bool) (n : Nat) : (s.landAll pick n).Bounded := by
  induction n generalizing s with
  | zero => exact h
  | succ n ih =>
    simp only [State.landAll]
    split
    · exact h
    · next ht => exact ih (h.landNth ht)

theorem deliverAll (h : s.Bounded) (pick : Job → Bool) : (s.deliverAll pick).2.Bounded :=
  foldl (fun _ d ht => ht.countFound d.2.2) _ { h with }

/-! #### Calibration fetch -/

theorem fetchAsk (h : s.Bounded) : s.fetchAsk.Bounded := by
  unfold State.fetchAsk
  split
  · exact h
  · split
    · exact h
    · exact ite ((h.setFetch _).ask _) h

theorem discardReads (h : s.Bounded) (p : Job → Bool) : (s.discardReads p).Bounded := { h with }

theorem abandonFetches (h : s.Bounded) (i : Nat) : (s.abandonFetches i).Bounded :=
  (((h.setFetch _).withdraw _).discardReads _).fetchAsk

theorem startFetch (h : s.Bounded) (i : Nat) (t : TileEntry) (e : SegmentEntry) (f : Frame) :
    (s.startFetch i t e f).Bounded := ite (h.setSlot _ _) ((h.setSlot _ _).setFetch _)

theorem startFetches (h : s.Bounded) (i : Nat) : (s.startFetches i).Bounded := by
  unfold State.startFetches
  split
  · exact h
  · split
    · exact h
    · exact (foldl (fun _ f ht => ht.startFetch _ _ _ f) _ h).fetchAsk

theorem readyTest (h : s.Bounded) (i : Nat) : (s.readyTest i).Bounded :=
  ite ((h.setSlot _ _).setReady (· ++ [i])) h

theorem completeFetch (h : s.Bounded) (f : Fetch) (x : FrameStatus) (r : List (BitVec 16)) :
    (s.completeFetch f x r).Bounded := (((h.setFetch _).setSlot _ _).readyTest _).fetchAsk

theorem fetchDelivered (h : s.Bounded) (i : Nat) (f : Frame) (b : Nat) (d : Word) (c : EccCondition) :
    (s.fetchDelivered i f b d c).Bounded := by
  unfold State.fetchDelivered
  split
  · exact h
  · cases c with
    | uncorrectable => exact (((h.recordFault _ _ _ _ _).withdraw _).discardReads _).completeFetch _ _ _
    | correct => exact ite (h.completeFetch _ _ _) (h.setFetch _)
    | corrected => exact ite (h.completeFetch _ _ _) (h.setFetch _)

/-! #### Row capture -/

theorem freeSlot (h : s.Bounded) (i : Nat) : (s.freeSlot i).Bounded := (h.setSlot _ _).abandonFetches i

theorem closeRow (h : s.Bounded) (i : Nat) (k : Closure) (c : Nat) : (s.closeRow i k c).Bounded := by
  refine ite ((h.recordFault _ _ _ _ _).freeSlot i) (readyTest ?_ i)
  cases k with
  | complete => exact h.setSlot _ _
  | gapped => exact (h.setSlot _ _).recordFault _ _ _ _ _
  | short => exact (h.setSlot _ _).recordFault _ _ _ _ _

theorem closeShort (h : s.Bounded) (i : Nat) : (s.closeShort i).Bounded := h.closeRow _ _ _

theorem storeBeat (h : s.Bounded) (i : Nat) (x : HeldBeat) : (s.storeBeat i x).Bounded := by
  have stored := fun v => (ite (c := anyPartly x.beat.enables = true)
    (h.recordFault x.bank .partialBeat x.segment x.row x.column) h).setSlot i v
  refine ite ?_ (stored _)
  split
  · exact (stored _).closeRow _ _ _
  · exact (stored _).closeRow _ _ _

theorem continueRow (h : s.Bounded) (i : Nat) (x : HeldBeat) : (s.continueRow i x).Bounded :=
  ite (h.recordFault _ _ _ _ _) (h.storeBeat i x)

theorem completeRaw (h : s.Bounded) (x : HeldBeat) : (s.completeRaw x).Bounded :=
  ite (ite (h.askStore _ _) ((h.respond _ _).askStore _ _)) (h.finishWrite _)

theorem takeSameRow (h : s.Bounded) (b g r : Nat) (l : List HeldBeat) : (s.takeSameRow b g r l).Bounded := by
  induction l generalizing s with
  | nil => exact h
  | cons x l ih =>
    have keep := ih (h.setHeld (· ++ [x]))
    simp only [State.takeSameRow]
    split
    · split
      · exact ite (ih ((h.continueRow _ x).completeRaw x)) keep
      · exact keep
    · exact keep

theorem openRow (h : s.Bounded) (i : Nat) (x : HeldBeat) : (s.openRow i x).Bounded :=
  (((((h.setSlot _ _).startFetches i).storeBeat i x).completeRaw x).setHeld fun _ => []).takeSameRow _ _ _ _

theorem takeHeld (h : s.Bounded) (i : Nat) (x : HeldBeat) : (s.takeHeld i x).Bounded := by
  unfold State.takeHeld
  split
  · exact h.openRow i x
  · exact ite ((h.continueRow _ x).completeRaw x) ((h.closeShort _).openRow i x)

theorem handSlots (h : s.Bounded) (n : Nat) : (s.handSlots n).Bounded := by
  induction n generalizing s with
  | zero => exact h
  | succ n ih =>
    simp only [State.handSlots]
    split
    · next rest _ _ _ => exact ih ((h.setHeld fun _ => rest).takeHeld _ _)
    · exact h

theorem handOn (h : s.Bounded) : s.handOn.Bounded := h.handSlots _

theorem captureBeat (h : s.Bounded) (x : HeldBeat) : (s.captureBeat x).Bounded := by
  refine setHeld (handOn ?_) fun l => l.map fun y => { y with arriving := false }
  split
  · exact h.setHeld (· ++ [x])
  · split
    · exact (h.continueRow _ x).completeRaw x
    · exact (h.closeShort _).setHeld (· ++ [x])

theorem countUnbound (h : s.Bounded) (late : Bool) : (s.countUnbound late).Bounded := by
  cases late with
  | true => exact { h with late := satAdd_le _ _ }
  | false => exact { h with unclaimed := satAdd_le _ _ }

theorem releaseHeld (h : s.Bounded) (b : Nat) (l : Bool) : (s.releaseHeld b l).Bounded :=
  foldl (fun _ _ ht => ((ht.respond _ _).askStore _ _).countUnbound l) _ (h.setHeld _)

theorem unbind (h : s.Bounded) (b : Nat) (l : Bool) : (s.unbind b l).Bounded :=
  ite ((h.setBank _ _).releaseHeld _ _) h

theorem closeCollecting (h : s.Bounded) (b : Nat) : (s.closeCollecting b).Bounded :=
  foldl (fun _ i ht => ht.closeShort i) _ h

theorem freeUnapplied (h : s.Bounded) (b : Nat) : (s.freeUnapplied b).Bounded :=
  foldl (fun _ i ht => ht.freeSlot i) _ (h.setReady _)

/-! #### The merge buffer -/

theorem dropEntry (h : s.Bounded) (i : Nat) : (s.dropEntry i).Bounded := { (h.withdraw _).setEntry i none with }

theorem touch (h : s.Bounded) (i : Nat) : (s.touch i).Bounded := { h with }

theorem askFill (h : s.Bounded) : s.askFill.Bounded := by
  unfold State.askFill
  split
  · exact h
  · split
    · exact h
    · exact ite h ((h.setEntry _ _).ask _)

theorem allocate (h : s.Bounded) (p : Pixel) : (s.allocate p).Bounded := by
  unfold State.allocate
  split
  · exact h.setWaiting _
  · exact ((((h.dropEntry _).setEntry _ _).touch _).setWaiting _).askFill

theorem finishView (h : s.Bounded) (v : ViewRead) : (s.finishView v).Bounded := ite { h with } { h with }

theorem viewAdvance (h : s.Bounded) (n : Nat) (v : ViewRead) : (s.viewAdvance n v).Bounded := by
  induction n generalizing v with
  | zero => exact h.finishView v
  | succ n ih =>
    simp only [State.viewAdvance]
    split
    · exact ih _
    · split
      · exact ih _
      · exact ih _
      · split
        · exact ite { h with } (ih _)
        · exact h.ask _
      · exact h.ask _
      · exact h.ask _

theorem resumeView (h : s.Bounded) (v : ViewRead) : (s.resumeView v).Bounded := h.viewAdvance _ v

theorem resumeViewsOn (h : s.Bounded) (a : Nat) : (s.resumeViewsOn a).Bounded :=
  foldl (fun _ v ht => ht.resumeView v) _ { h with }

theorem holdCell (h : s.Bounded) (b : BusBeat) : (s.holdCell b).Bounded := { h with }

theorem releaseReads (h : s.Bounded) (a : Nat) : (s.releaseReads a).Bounded :=
  resumeViewsOn (foldl (fun _ b ht => ht.askRead b) _ (h.onBus h.protects h.requestsLost)) a

theorem freeUnasked (h : s.Bounded) (i a : Nat) : (s.freeUnasked i a).Bounded := by
  refine releaseReads ?_ a
  split
  · exact (h.dropEntry i).setWaiting _
  · exact h.dropEntry i

theorem countOverwritten (h : s.Bounded) : s.countOverwritten.Bounded := { h with overwritten := satAdd_le _ _ }

theorem cellBeat (h : s.Bounded) (b : BusBeat) : (s.cellBeat b).Bounded := by
  have carryOut {t : State} (ht : t.Bounded) : (if b.write then t.askStore false b else t.askRead b).Bounded :=
    ite (ht.askStore _ _) (ht.askRead _)
  unfold State.cellBeat
  dsimp only
  split
  · exact carryOut h
  · split
    · exact carryOut h
    · split
      · exact ite (h.holdCell b) (h.respond b _)
      · split
        · exact ite (h.holdCell b) (carryOut (h.freeUnasked _ _))
        · exact carryOut (h.dropEntry _)
        · exact ite (h.holdCell b) (carryOut (h.dropEntry _).countOverwritten)
        · exact h.holdCell b

theorem cellsAdvance (h : s.Bounded) : s.cellsAdvance.Bounded := foldl (fun _ b ht => ht.cellBeat b) _ { h with }

theorem serveReads (h : s.Bounded) (a : Nat) (w : Word) : (s.serveReads a w).Bounded :=
  resumeViewsOn (foldl (fun _ b ht => ht.respond b _) _ (h.onBus h.protects h.requestsLost)) a

theorem askWriteBack (h : s.Bounded) (i : Nat) : (s.askWriteBack i).Bounded := by
  unfold State.askWriteBack
  split
  · exact h
  · exact (h.setEntry _ _).ask _

theorem writeBackGranted (h : s.Bounded) (i : Nat) : (s.writeBackGranted i).Bounded := by
  unfold State.writeBackGranted
  split
  · exact h
  · next e _ => exact { h.setEntry i (some { e with state := .writing, writeAsked := false }) with }

theorem writeBackDone (h : s.Bounded) (i : Nat) : (s.writeBackDone i).Bounded := by
  have flushes {t : State} (ht : t.Bounded) (f : List Flush → List Flush) :
      (t.onMerge fun m => { m with flushes := f m.flushes }).Bounded := { ht with }
  unfold State.writeBackDone
  dsimp only
  split
  · exact flushes h _
  · exact flushes (ite (h.setEntry _ _) (h.setEntry _ _)) _

theorem beginFlush (h : s.Bounded) (a : FlushFor) (p : Nat → Bool) : (s.beginFlush a p).Bounded := { h with }

theorem dropEntries (h : s.Bounded) (p : Entry → Bool) : (s.dropEntries p).Bounded :=
  foldl (fun _ i ht => ht.dropEntry i) _ h

/-! #### The plan loader -/

theorem planAsk (h : s.Bounded) : s.planAsk.Bounded := by
  unfold State.planAsk
  split
  · exact h
  · exact ite h (ite ((h.onLoader _).ask _) h)

theorem beginLoad (h : s.Bounded) (i : Bool) : (s.beginLoad i).Bounded := (h.onLoader _).planAsk

theorem beginDeferred (h : s.Bounded) : s.beginDeferred.Bounded := ite (h.beginLoad _) h

theorem clearLate (h : s.Bounded) (o n b : Nat) : (State.clearLate o n b s).Bounded :=
  ite { h with banks := (List.length_modify ..).trans h.banks } h

theorem install (h : s.Bounded) (p : Plan) (g : Nat) : (s.install p g).Bounded :=
  let cleared := fun o o' : Nat => (h.clearLate o p.bank0 0).clearLate o' p.bank1 1
  { cleared _ _ with }

theorem recordOutcome (h : s.Bounded) (i : Bool) (o : ReplyOutcome) (d : Detail) : (s.recordOutcome i o d).Bounded :=
  ite ((h.onLoader _).reply _ _) ((h.onLoader _).raise _)

theorem finishLoad (h : s.Bounded) (l : Load) : (s.finishLoad l).Bounded :=
  (ite (h.install _ _) h).recordOutcome _ _ _

theorem planDelivered (h : s.Bounded) (k : Nat) (d : Word) (c : EccCondition) : (s.planDelivered k d c).Bounded := by
  unfold State.planDelivered
  split
  · exact h
  · exact ite (h.finishLoad _) (h.onLoader _)

theorem takeCommit (h : s.Bounded) (r : RequestRecord) : (s.takeCommit r).Bounded :=
  ite (h.reply _ _) (ite ((h.onLoader _).reply _ _) (((h.onLoader _).keepInHand 0).beginLoad true))

/-! #### The notice unit -/

theorem evaluateTiles_length (p : Plan) (l : List TileCount) (tiles : List Health) :
    (evaluateTiles p tiles l).length = tiles.length := by
  induction l generalizing tiles with
  | nil => rfl
  | cons c l ih => exact (ih _).trans (List.length_modify ..)

theorem evaluateHealth (h : s.Bounded) (l : List TileCount) : (s.evaluateHealth l).Bounded := by
  unfold State.evaluateHealth
  split
  · exact h
  · next p _ =>
    have evaluated : (s.onNotice fun n => { n with tiles := evaluateTiles p s.notice.tiles l, wanted := true }).Bounded :=
      { h with tiles := (evaluateTiles_length p l _).trans h.tiles }
    exact ite (evaluated.raise _) evaluated

theorem takeRelease (h : s.Bounded) (r : RequestRecord) : (s.takeRelease r).Bounded :=
  ite (h.reply _ _) <| ite (h.reply _ _) <| ite (h.reply _ _) <|
    (h.onNotice ((List.length_modify ..).trans h.tiles)).reply _ _

theorem takeAck (h : s.Bounded) (v : BitVec 32) : (s.takeAck v).Bounded := { h with }
theorem takeMask (h : s.Bounded) (v : BitVec 32) : (s.takeMask v).Bounded := { h with }

theorem noticeAsk (h : s.Bounded) : s.noticeAsk.Bounded := by
  unfold State.noticeAsk
  split
  · exact h
  · split
    · exact ite { h with } h
    · split
      · exact ite { h with } h
      · exact h

theorem startReply (h : s.Bounded) (r : Reply) : (s.startReply r).Bounded := noticeAsk { h with }
theorem startStatus (h : s.Bounded) : s.startStatus.Bounded := noticeAsk { h with }
theorem finishStatus (h : s.Bounded) (w : StatusWrite) : (s.finishStatus w).Bounded := { h with }

theorem restartNotices (h : s.Bounded) : s.restartNotices.Bounded := 
  ite ((h.onNotice h.tiles).raise _) (h.onNotice h.tiles)

/-! #### The exposure controller -/

theorem taskAsk_counts {t : ExpoTask} {a : Ask} {f : ExposureCtl → ExposureCtl} (ht : s.taskAsk t = some (a, f))
    (e : ExposureCtl) : (f e).accepted = e.accepted ∧ (f e).consume = e.consume := by
  cases t <;> simp only [State.taskAsk, Option.bind_eq_some_iff] at ht <;> obtain ⟨w, -, ht⟩ := ht <;>
    split at ht <;> cases ht <;> exact ⟨rfl, rfl⟩

theorem expoAsk (h : s.Bounded) : s.expoAsk.Bounded := by
  unfold State.expoAsk
  split
  · exact h
  · split
    · exact h
    · next ht =>
      obtain ⟨t, -, ht⟩ := List.exists_of_findSome?_eq_some ht
      obtain ⟨ha, hc⟩ := taskAsk_counts ht s.expo
      exact (h.onExpo (ha ▸ h.accepted) (hc ▸ h.consume)).ask _

theorem beginTask (h : s.Bounded) (t : ExpoTask) : (s.beginTask t).Bounded := { h with }
theorem endTask (h : s.Bounded) (t : ExpoTask) : (s.endTask t).Bounded := { h with }
theorem onSearch (h : s.Bounded) (q : Option Search) : (s.onSearch q).Bounded := { h with }
theorem reportDue (h : s.Bounded) (d : ReportDue) : (s.reportDue d).Bounded := { h with }
theorem freeRecord (h : s.Bounded) (b : Nat) : (s.freeRecord b).Bounded := { h with }

theorem takePost (h : s.Bounded) (v : BitVec 8) : (s.takePost v.toNat).Bounded :=
  ite { h with accepted := v.isLt } (h.raise _)

theorem reject (h : s.Bounded) (n t p b : Nat) (r : Rejection) (x : List (Nat × Exclusion)) :
    (s.reject n t p b r x).Bounded := (h.onRing _ _).reportDue _

theorem startReport (h : s.Bounded) (d : ReportDue) (l : List ReportDue) : (s.startReport d l).Bounded :=
  ((h.onExpo h.accepted h.consume).beginTask .report).expoAsk

/-- The FINISHED descriptors leave the ring and the report sequence is taken. -/
theorem advanceRing (h : s.Bounded) (n : Nat) : (s.onExpo fun e => { e.advance with reportSeq := n }).Bounded :=
  { h with consume := Nat.mod_lt _ (by decide) }

theorem finishDescriptor (h : s.Bounded) (w : ReportWrite) : (s.finishDescriptor w).Bounded := by
  have finished := ((((h.onExpo (f := fun e => { e with report := none }) h.accepted h.consume).endTask .report).onRing
    w.due.number fun r => { r with state := .finished, due := false }).advanceRing w.sequence).raise .exposureDone
  unfold State.finishDescriptor
  dsimp only
  split
  · exact finished
  · split
    · exact finished
    · exact ((finished.evaluateHealth _).freeRecord _).beginDeferred

theorem drainCheck (h : s.Bounded) (b : Nat) : (s.drainCheck b).Bounded := by
  unfold State.drainCheck
  split
  · exact h
  · exact ite ((h.onRecord _ _).beginFlush _ _) h

theorem endAborted (h : s.Bounded) (b : Nat) : (s.endAborted b).Bounded := (h.onRecord _ _).unbind _ _

theorem abortRecord (h : s.Bounded) (b : Nat) : (s.abortRecord b).Bounded :=
  ((h.endAborted b).freeUnapplied b).handOn.drainCheck b

theorem expire (h : s.Bounded) (b : Nat) : (s.expire b).Bounded :=
  (((h.onRecord _ _).unbind _ _).closeCollecting b).handOn.drainCheck b

theorem completeExposure (h : s.Bounded) (b : Nat) : (s.completeExposure b).Bounded :=
  ((h.onRecord _ _).unbind _ _).closeCollecting b

theorem attempt (h : s.Bounded) (c : RingEntry) : (s.attempt c).Bounded := by
  unfold State.attempt
  split
  · exact (h.onExpo h.accepted h.consume).reject _ _ _ _ _ _
  · exact ((h.onExpo h.accepted h.consume).beginTask _).expoAsk

theorem unseed (h : s.Bounded) (b : Nat) : (s.unseed b).Bounded :=
  { h with bias := List.length_mapIdx.trans h.bias }

theorem activate (h : s.Bounded) (d : Descriptor) (n : Nat) (r : ExposureRecord) : (s.activate d n r).Bounded :=
  (((h.onExpo h.accepted h.consume).onRing _ _).setBank _ _).unseed _

theorem examine (h : s.Bounded) (c : RingEntry) (d : Descriptor) (x : Bool) : (s.examine c d x).Bounded := by
  have refuse (why : Rejection) (l : List (Nat × Exclusion)) := h.reject c.number d.tag d.product d.bank why l
  unfold State.examine
  refine ite (refuse _ _) <| ite (h.onExpo h.accepted h.consume) <| ite (h.onExpo h.accepted h.consume) ?_
  split
  · exact ite (refuse _ _) <| ite (refuse _ _) <| ite (refuse _ _) <| ite (refuse _ _) (h.activate _ _ _)
  · exact refuse _ _

theorem readDone (h : s.Bounded) (a : ActivationRead) : (s.readDone a).Bounded := by
  have got := h.deliverAll isDescriptorRead
  have ended := (got.onExpo (f := fun e => { e with activation := none }) got.accepted got.consume).endTask .activation
  unfold State.readDone
  refine expoAsk ?_
  split
  · exact ended
  · exact ite ended (ended.examine _ _ _)

theorem searchNext (h : s.Bounded) (l : List Nat) : (s.searchNext l).Bounded := by
  unfold State.searchNext
  split
  · exact (h.onSearch _).expoAsk
  · exact (((h.onSearch _).endTask _).reply _ _).expoAsk

theorem takeAbort (h : s.Bounded) (r : RequestRecord) : (s.takeAbort r).Bounded := by
  refine ite (h.reply _ _) ?_
  split
  · exact ite ((h.abortRecord _).reply _ _) (h.reply _ _)
  · exact ((h.keepInHand 0).beginTask .search).searchNext []

theorem searchDelivered (h : s.Bounded) (q : Search) (n : Nat) (d : Word) (c : EccCondition) :
    (s.searchDelivered q n d c).Bounded :=
  ite ((((h.onSearch _).endTask _).onRing _ _).reply _ _).expoAsk (h.searchNext _)

/-! #### The region engine and the product requests -/

theorem engineAsk (h : s.Bounded) : s.engineAsk.Bounded := by
  unfold State.engineAsk
  dsimp only
  split
  · exact h
  · split
    · exact h
    · exact ite (h.ask _) h
    · exact ite (h.ask _) (ite ((h.onEngine _).ask _) h)

theorem startJob (h : s.Bounded) (k : JobKind) (p : Nat) (q : ProductEntry) : (s.startJob k p q).Bounded :=
  ((h.setProduct _ _).onEngine _).engineAsk

theorem clearGranted (h : s.Bounded) : s.clearGranted.Bounded := (h.onEngine _).engineAsk

theorem renderGranted (h : s.Bounded) (n : Nat) : (s.renderGranted n).Bounded := (h.onEngine _).engineAsk

theorem finishHalt (h : s.Bounded) (k : JobKind) (c : HaltCause) : (s.finishHalt k c).Bounded := by
  cases c with
  | restart => exact { h.setProduct s.prod.engine.product ⟨haltedState k .restart, .none⟩ with }
  | request => exact ((h.setProduct _ _).onEngine _).reply _ _
  | discard => exact ((h.setProduct _ _).onEngine _).reply _ _

theorem endJob (h : s.Bounded) (k : JobKind) : (s.endJob k).Bounded := ((h.setProduct _ _).onEngine _).raise _

theorem engineCheck (h : s.Bounded) : s.engineCheck.Bounded := by
  unfold State.engineCheck
  dsimp only
  split
  · exact h
  · split
    · exact h
    · split
      · exact h.finishHalt _ _
      · exact ite (h.endJob _) h

theorem halt (h : s.Bounded) (c : HaltCause) : (s.halt c).Bounded := ((h.onEngine _).withdraw _).engineCheck

theorem renderDelivered (h : s.Bounded) (n : Nat) (d : Word) (c : EccCondition) : (s.renderDelivered n d c).Bounded :=
  ite h.engineCheck (h.onEngine _).engineAsk

theorem takeOpen (h : s.Bounded) (r : RequestRecord) : (s.takeOpen r).Bounded := by
  refine ite (h.reply _ _) ?_
  split
  · exact h.reply _ _
  · exact ite (h.reply _ _) <| ite (h.reply _ _) <| ite (h.reply _ _) <|
      ite ((h.setProduct _ _).reply _ _) ((h.startJob _ _ _).reply _ _)

theorem takeFreeze (h : s.Bounded) (r : RequestRecord) : (s.takeFreeze r).Bounded :=
  ite (h.reply _ _) <| ite (h.reply _ _) <| ite (h.reply _ _) <| ite (h.reply _ _) <|
    ((h.keepInHand _).setProduct _ _).beginFlush _ _

theorem takeThaw (h : s.Bounded) (r : RequestRecord) : (s.takeThaw r).Bounded :=
  ite (h.reply _ _) <| ite (h.reply _ _) <| ite (h.reply _ _) <| ite (h.reply _ _) <|
    (h.setProduct _ _).reply _ _

theorem takeRender (h : s.Bounded) (r : RequestRecord) : (s.takeRender r).Bounded := by
  refine ite (h.reply _ _) ?_
  split
  · exact h.reply _ _
  · exact ite (h.reply _ _) <| ite (h.reply _ _) <| ite (h.reply _ _) ((h.startJob _ _ _).reply _ _)

theorem takeDiscard (h : s.Bounded) (r : RequestRecord) : (s.takeDiscard r).Bounded := by
  refine ite (h.reply _ _) <| ite (h.reply _ _) <| ite (h.reply _ _) ?_
  dsimp only
  split
  · exact h.reply _ _
  · exact (h.keepInHand _).halt _
  · exact (h.keepInHand _).setProduct _ _
  · exact (h.setProduct _ _).reply _ _
  · exact (h.keepInHand _).halt _

theorem takeHalt (h : s.Bounded) : s.takeHalt.Bounded :=
  ite (h.reply _ _) (ite ((h.keepInHand _).halt _) (h.reply _ _))

/-! #### The pixel pipeline -/

theorem finishRow (h : s.Bounded) (a : Applying) : (s.finishRow a).Bounded := by
  have freed : ((((s.onPipe fun p => { p with applying := none }).onRecord (s.slot a.slot).bank fun r =>
      { r with rowMap := r.rowMap ++ [((s.slot a.slot).segment, (s.slot a.slot).row)] }).freeSlot a.slot).Bounded) :=
    ((h.onPipe h.bias).onRecord _ _).freeSlot _
  unfold State.finishRow
  refine (handOn ?_).drainCheck _
  split
  · exact freed
  · exact ite (freed.completeExposure _) freed

theorem rowCheck (h : s.Bounded) : s.rowCheck.Bounded := by
  unfold State.rowCheck
  split
  · exact h
  · exact ite (h.finishRow _) h

theorem applyRow (h : s.Bounded) (i : Nat) (l : List Nat) : (s.applyRow i l).Bounded := by
  unfold State.applyRow
  exact rowCheck (onPipe ((h.setSlot _ _).setReady fun _ => l) ((List.length_set ..).trans h.bias))

theorem countDecision (h : s.Bounded) (p : Pixel) (d : Decided) : (s.countDecision p d).Bounded := h.onRecord _ _

theorem decidePixel (h : s.Bounded) (p : Pixel) (i : Nat) : (s.decidePixel p i).Bounded := by
  unfold State.decidePixel
  split
  · exact h
  · exact (((h.setEntry _ _).touch _).countDecision _ _).setWaiting _

theorem offerPixel (h : s.Bounded) (p : Pixel) : (s.offerPixel p).Bounded := by
  refine ite (h.setWaiting _) ?_
  split
  · exact ite (h.setWaiting _) (h.decidePixel _ _)
  · exact h.allocate p

theorem pixelRetry (h : s.Bounded) : s.pixelRetry.Bounded := by
  refine askFill ?_
  split
  · exact h
  · exact h
  · exact h.allocate _
  · exact ite h (h.offerPixel _).rowCheck

theorem presentPixel (h : s.Bounded) (a : Applying) (c : Nat) (v : BitVec 16) : (s.presentPixel a c v).Bounded := by
  have moved : (s.onPipe fun p => { p with applying := some { a with column := c + 1 } }).Bounded := { h with }
  unfold State.presentPixel
  dsimp only
  split
  · split
    · exact (moved.onRecord _ _).rowCheck
    · split
      · exact (moved.onRecord _ _).rowCheck
      · exact ((moved.onRecord _ _).offerPixel _).rowCheck
  · exact moved.rowCheck

theorem chargeLost (h : s.Bounded) (p : Pixel) : (s.chargeLost p).Bounded := (h.onRecord _ _).recordFault _ _ _ _ _

theorem fillDelivered (h : s.Bounded) (i : Nat) (e : Entry) (d : Word) (c : EccCondition) :
    (s.fillDelivered i e d c).Bounded := by
  unfold State.fillDelivered
  dsimp only
  split
  · exact ((ite (((h.setEntry _ _).serveReads _ _).chargeLost _) ((h.setEntry _ _).serveReads _ _)).decidePixel _ _).rowCheck
  · exact (h.setEntry _ _).serveReads _ _

/-! #### Settling -/

theorem flushDone (h : s.Bounded) (f : Flush) : (s.flushDone f).Bounded := by
  unfold State.flushDone
  split
  · split
    · exact h
    · exact h.reportDue _
  · exact ((h.dropEntries _).setProduct _ _).reply _ _
  · exact h

theorem flushAdvance (h : s.Bounded) : s.flushAdvance.Bounded := foldl (fun _ f ht => ht.flushDone f) _ { h with }

theorem discardStep (h : s.Bounded) (p : Nat) : (s.discardStep p).Bounded :=
  ite (ite (h.dropEntries _) (((h.dropEntries _).setProduct _ _).reply _ _)) h

theorem discardAdvance (h : s.Bounded) : s.discardAdvance.Bounded := foldl (fun _ p ht => ht.discardStep p) _ h

theorem restartFlush (h : s.Bounded) (r : RestartProgress) : (s.restartFlush r).Bounded :=
  ite { h with bias := List.length_replicate } h

theorem restartDrop (h : s.Bounded) (r : RestartProgress) : (s.restartDrop r).Bounded :=
  ite { h.dropEntries fun _ => true with } h

theorem restartReply (h : s.Bounded) (r : RestartProgress) : (s.restartReply r).Bounded := 
  ite ((h.onBus h.protects h.requestsLost).reply _ _) h

theorem restartAdvance (h : s.Bounded) : s.restartAdvance.Bounded := by
  unfold State.restartAdvance
  split
  · exact h
  · have flushed := (h.restartFlush ‹_›).flushAdvance
    dsimp only
    split
    · exact flushed
    · have dropped := flushed.restartDrop ‹_›
      split
      · exact dropped
      · exact dropped.restartReply _

theorem mergeSettle (h : s.Bounded) : s.mergeSettle.Bounded :=
  h.cellsAdvance.flushAdvance.discardAdvance.pixelRetry.flushAdvance.restartAdvance

/-! #### Beats -/

theorem completeUnused (h : s.Bounded) (c : Bool) (b : BusBeat) : (s.completeUnused c b).Bounded :=
  ite (h.askStore _ _) (h.finishWrite _)

theorem countStray (h : s.Bounded) : (s.onCapture fun c => { c with stray := satAdd c.stray 1 }).Bounded :=
  { h with stray := satAdd_le _ _ }

theorem rawWrite (h : s.Bounded) (k : Nat) (b : BusBeat) : (s.rawWrite k b).Bounded := by
  unfold State.rawWrite
  refine ite ((h.countUnbound _).askStore _ _) ?_
  split
  · exact (h.countUnbound _).askStore _ _
  · exact ite (h.completeUnused _ _) <| ite (completeUnused (countStray h) _ _) <|
      ite ((h.onRecord _ _).completeUnused _ _) (h.captureBeat _)

theorem protectedWrite (h : s.Bounded) (b : BusBeat) : (s.protectedWrite b).Bounded :=
  ite (h.finishWrite b) (((h.onBus (satAdd_le _ _) h.requestsLost).raise _).finishWrite b)

theorem planAreaWrite (h : s.Bounded) (b : BusBeat) : (s.planAreaWrite b).Bounded :=
  (ite (h.onLoader _) h).askStore _ _

theorem cellRegion (h : s.Bounded) (p : Nat) (b : BusBeat) : (s.cellRegion p b).Bounded := by
  unfold State.cellRegion
  split
  · exact ite (h.askStore _ _) (h.askRead _)
  · exact ite (h.askStore _ _) (h.askRead _)
  · exact ite (h.finishWrite _) (h.cellBeat _)
  · exact ite (h.protectedWrite _) (h.askRead _)
  · exact ite (h.protectedWrite _) (h.askRead _)

theorem viewRead (h : s.Bounded) (p : Nat) (b : BusBeat) : (s.viewRead p b).Bounded := by
  unfold State.viewRead
  split
  · exact h.askRead b
  · exact h.viewAdvance _ _

theorem routeBeat (h : s.Bounded) (b : BusBeat) : (s.routeBeat b).Bounded := by
  unfold State.routeBeat
  split
  · exact h.respond b _
  · exact ite (h.askStore _ _) (h.askRead _)
  · exact ite (h.planAreaWrite _) (h.askRead _)
  · exact ite (h.rawWrite _ _) (h.askRead _)
  · exact h.cellRegion _ _
  · exact ite (h.protectedWrite _) (h.viewRead _ _)

/-- Beats join and leave the list held on a lock. -/
theorem setLockWaiters (h : s.Bounded) (f : List BusBeat → List BusBeat) :
    (s.onBus fun x => { x with lockWaiters := f x.lockWaiters }).Bounded := { h with }

/-- Beats join and leave the list of the stalled masters. -/
theorem setStalled (h : s.Bounded) (f : List BusBeat → List BusBeat) :
    (s.onBus fun x => { x with stalled := f x.stalled }).Bounded := { h with }

theorem takeLock (h : s.Bounded) (b : BusBeat) : (s.takeLock b).Bounded := { h with }

theorem takeCore (h : s.Bounded) (b : BusBeat) : (s.takeCore b).Bounded :=
  ite (h.respond b _) <| ite (h.setLockWaiters (· ++ [b])) <| ite (h.respond b _) <|
    ite ((h.takeLock b).routeBeat b) (h.routeBeat b)

theorem takeBeat (h : s.Bounded) (b : BusBeat) : (s.takeBeat b).Bounded := by
  unfold State.takeBeat
  split
  · exact h.takeCore b
  · exact ite (ite ((h.onBus h.protects h.requestsLost).takeCore _) (h.endLock.setLockWaiters (· ++ [b]))) (h.takeCore b)

theorem retake (h : s.Bounded) (n : Nat) : (s.retake n).Bounded := by
  induction n generalizing s with
  | zero => exact h
  | succ n ih =>
    simp only [State.retake]
    split
    · exact ih ((h.setLockWaiters fun _ => _).takeCore _).mergeSettle
    · split
      · exact ih ((h.setStalled fun _ => _).takeBeat _).mergeSettle
      · exact h

theorem settle (h : s.Bounded) : s.settle.Bounded := h.mergeSettle.retake _

theorem arrive (h : s.Bounded) (b : BusBeat) : (s.arrive b).Bounded :=
  ite (h.setStalled (· ++ [b])) (h.takeBeat b).settle

theorem loseHeld (h : s.Bounded) (x : HeldBeat) : (s.loseHeld x).Bounded := by
  unfold State.loseHeld
  exact (((h.setHeld _).recordFault _ _ _ _ _).completeRaw _).settle

/-! #### The grant and hardware reset -/

theorem applyUpset (h : s.Bounded) (u : Nat) (x : Option Upset) : (s.applyUpset u x).Bounded := by
  cases x with
  | none => exact h
  | some x => exact ite { h with } { h with }

theorem granted (h : s.Bounded) (a : Ask) : (s.granted a).Bounded := { h with }

theorem afterGrant (h : s.Bounded) (j : Job) : (s.afterGrant j).Bounded := by
  unfold State.afterGrant
  split
  · exact ite { h with } h
  · exact ite h (h.respond _ _)
  · exact ite { h with } h
  · exact h
  · exact h
  · exact h
  · exact h.fetchAsk
  · exact h.writeBackGranted _
  · exact h.noticeAsk
  · exact h.noticeAsk
  · exact h.expoAsk
  · exact h.expoAsk
  · split
    · exact ite (h.finishDescriptor _).expoAsk h.expoAsk
    · exact h.expoAsk
  · exact h.planAsk
  · exact h.clearGranted
  · exact h.engineAsk
  · exact h.renderGranted _

/-- Hardware reset gives every table its size and every count its start, whatever the part held. -/
theorem hardReset (s : State) : s.hardReset.Bounded := by
  constructor
  case slots | entries | bias | tiles => exact List.length_replicate
  case banks | products => rfl
  case accepted | consume => exact Nat.zero_lt_succ _
  all_goals exact Nat.zero_le _

theorem released (h : s.Bounded) (bypass : Bool) (planSel memSize : BitVec 2) :
    (if s.inReset then s.released bypass planSel memSize else s).Bounded := ite { h with } h

/-! #### Traffic -/

theorem rsUsed (h : s.Bounded) (p : Nat) : (s.rsUsed p).Bounded := ite h { h with }

theorem positionDelivered (h : s.Bounded) (v : ViewRead) (d : Word) (c : EccCondition) :
    (s.positionDelivered v d c).Bounded := ite (h.respond _ _) ((h.rsUsed _).resumeView _)

theorem loseRequest (h : s.Bounded) : s.loseRequest.Bounded := (h.onBus h.protects (satAdd_le _ _)).raise _

theorem takeRequest (h : s.Bounded) (v : BitVec 32) : (s.takeRequest v).Bounded := by
  unfold State.takeRequest
  split
  · exact h.loseRequest
  · exact { h with }

theorem takeWord (h : s.Bounded) (c : ControlWord) (v : BitVec 32) : (s.takeWord c v).Bounded := by
  cases c with
  | request => exact h.takeRequest v
  | post => exact h.takePost _
  | acknowledge => exact h.takeAck v
  | mask => exact h.takeMask v

theorem partWord (h : s.Bounded) (c : ControlWord) : (s.partWord c).Bounded := by
  cases c with
  | request => exact h.loseRequest
  | post => exact h.raise _
  | acknowledge => exact h
  | mask => exact h

theorem wordStored (h : s.Bounded) (b : BusBeat) : (s.wordStored b).Bounded := by
  refine ite h ?_
  split
  · exact h
  · split
    · exact h.takeWord _ _
    · exact h.partWord _
    · exact h

theorem storeDone (h : s.Bounded) (b : BusBeat) : (s.storeDone b).Bounded := by
  unfold State.storeDone
  exact (ite (h.wordStored b).endLock (h.wordStored b)).settle

theorem dispatch (h : s.Bounded) (q : Request) (r : RequestRecord) : (s.dispatch q r).Bounded :=
  ite { h with } ((h.onBus h.protects h.requestsLost).reply _ _)

theorem recordRead (h : s.Bounded) (q : Request) : (s.recordRead q).Bounded := by
  have got := h.deliverAll isRecordRead
  exact ite (got.reply _ _) (ite (got.reply _ _) (got.dispatch _ _))

/-! #### RESTART and the end of a reply -/

theorem beginRestart (h : s.Bounded) : s.beginRestart.Bounded := { h with }
theorem restartRead (h : s.Bounded) : s.restartRead.Bounded := { h with }

theorem restartExposures (h : s.Bounded) : s.restartExposures.Bounded :=
  foldl (fun _ b ht => ht.drainCheck b) _ <| foldl (fun _ b ht => ht.freeUnapplied b) _ <|
    foldl (fun _ b ht => ht.endAborted b) _ h

theorem restartJob (h : s.Bounded) : s.restartJob.Bounded := ite (h.halt _) h

theorem takeRestart (h : s.Bounded) : s.takeRestart.Bounded :=
  (h.keepInHand 0).restartNotices.beginRestart.restartRead.restartExposures.restartJob.settle

theorem replyDone (h : s.Bounded) : s.replyDone.Bounded :=
  have done : (((s.onNotice fun n => { n with reply := none }).onBus fun f => { f with inHand := none }).raise
    .requestDone).Bounded := ((h.onNotice h.tiles).onBus h.protects h.requestsLost).raise _
  ite done.beginDeferred done

/-! #### The events, and the step -/

/-- An event that, when it happens, leaves a part within its bounds does so within its command. -/
theorem happen (h : s.Bounded) {x : Option State} (hx : ∀ u ∈ x, u.Bounded) {t : State} (ht : s.happen x = .next t) :
    t.Bounded := by
  obtain rfl : (if s.inReset then s else x.getD s) = t := Host.Outcome.next.inj ht
  split
  · exact h
  · cases x with
    | none => exact h
    | some u => exact hx u rfl

theorem of_map {α : Type} {o : Option α} {f : α → State} (hf : ∀ a ∈ o, (f a).Bounded) : ∀ u ∈ o.map f, u.Bounded := by
  rintro u hu
  obtain ⟨a, ha, rfl⟩ := Option.mem_map.1 hu
  exact hf a ha

theorem of_bind {α : Type} {o : Option α} {f : α → Option State} (hf : ∀ a, ∀ u ∈ f a, u.Bounded) :
    ∀ u ∈ o.bind f, u.Bounded := by
  intro u hu
  obtain ⟨a, -, ha⟩ := Option.bind_eq_some_iff.1 hu
  exact hf a u ha

theorem of_some {t : State} (ht : t.Bounded) : ∀ u ∈ some t, u.Bounded := by
  rintro u ⟨⟩
  exact ht

theorem of_none : ∀ u ∈ (none : Option State), u.Bounded := by
  rintro u ⟨⟩

theorem of_ite {c : Prop} [Decidable c] {x y : Option State} (hx : ∀ u ∈ x, u.Bounded) (hy : ∀ u ∈ y, u.Bounded) :
    ∀ u ∈ (if c then x else y), u.Bounded := by
  split
  · exact hx
  · exact hy

/-- What a requester makes of a completed write. -/
theorem of_landNth (h : s.Bounded) {pick : Job → Bool} {n : Nat} {f : Access × State → State}
    (hf : ∀ a t, t.Bounded → (f (a, t)).Bounded) : ∀ u ∈ (s.landNth pick n).map f, u.Bounded :=
  of_map fun x hx => hf x.1 x.2 (h.landNth hx)

/-- What a requester makes of a delivered read. -/
theorem of_deliverNth (h : s.Bounded) {pick : Job → Bool} {n : Nat} {f : Access × Word × EccCondition × State → State}
    (hf : ∀ a w c t, t.Bounded → (f (a, w, c, t)).Bounded) : ∀ u ∈ (s.deliverNth pick n).map f, u.Bounded :=
  of_map fun x hx => hf x.1 x.2.1 x.2.2.1 x.2.2.2 (h.deliverNth hx)

/-- What an owner makes of a request it has been given. -/
theorem of_dispatched {kind : Nat} {f : RequestRecord → State} (hf : ∀ r, (f r).Bounded) :
    ∀ u ∈ (s.dispatched kind).map f, u.Bounded := of_map fun r _ => hf r

theorem busReadEvent (h : s.Bounded) (n : Nat) : ∀ u ∈ s.busReadEvent n, u.Bounded := by
  refine (h.landBefore _ _).of_deliverNth fun a w c t ht => ?_
  dsimp only
  split
  · exact ht.respond _ _
  · exact ht

theorem viewEvent (h : s.Bounded) (n : Nat) : ∀ u ∈ s.viewEvent n, u.Bounded := by
  refine h.of_deliverNth fun a w c t ht => ?_
  dsimp only
  split
  · exact (ht.positionDelivered _ _ _).settle
  · exact ht

theorem busWriteEvent (h : s.Bounded) (pick : Job → Bool) (n : Nat) : ∀ u ∈ s.busWriteEvent pick n, u.Bounded := by
  refine of_ite of_none (h.of_landNth fun a t ht => ?_)
  dsimp only
  split
  · exact ht.storeDone _
  · exact ht

theorem recordEvent (h : s.Bounded) : ∀ u ∈ s.recordEvent, u.Bounded := by
  unfold State.recordEvent
  split
  · exact of_none
  · exact of_ite (of_some (h.recordRead _)) of_none

theorem planEvent (h : s.Bounded) (n : Nat) : ∀ u ∈ s.planEvent n, u.Bounded := by
  refine h.of_deliverNth fun a w c t ht => ?_
  dsimp only
  split
  · exact (ht.planDelivered _ _ _).settle
  · exact ht

theorem choiceEvent (h : s.Bounded) : ∀ u ∈ s.choiceEvent, u.Bounded :=
  of_ite of_none (of_map fun i _ => h.askWriteBack i)

theorem writeBackEvent (h : s.Bounded) (n : Nat) : ∀ u ∈ s.writeBackEvent n, u.Bounded := by
  refine h.of_landNth fun a t ht => ?_
  dsimp only
  split
  · exact (ht.writeBackDone _).settle
  · exact ht

theorem fillEvent (h : s.Bounded) : ∀ u ∈ s.fillEvent, u.Bounded := by
  refine h.of_deliverNth fun a w c t ht => ?_
  dsimp only
  split
  · exact ite (ht.fillDelivered _ _ _ _).settle ht
  · exact ht

theorem applyEvent (h : s.Bounded) : ∀ u ∈ s.applyEvent, u.Bounded := by
  unfold State.applyEvent
  split
  · exact of_some (h.applyRow _ _).settle
  · exact of_none

theorem presentEvent (h : s.Bounded) : ∀ u ∈ s.presentEvent, u.Bounded := by
  unfold State.presentEvent
  split
  · exact of_none
  · exact of_ite of_none (of_map fun x _ => (h.presentPixel _ _ _).settle)

theorem calEvent (h : s.Bounded) (n : Nat) : ∀ u ∈ s.calEvent n, u.Bounded := by
  refine h.of_deliverNth fun a w c t ht => ?_
  dsimp only
  split
  · exact (ht.fetchDelivered _ _ _ _ _).settle
  · exact ht.settle

theorem attemptEvent (h : s.Bounded) : ∀ u ∈ s.attemptEvent, u.Bounded :=
  of_bind fun c => of_ite (of_some (h.attempt c)) of_none

theorem readDoneEvent (h : s.Bounded) : ∀ u ∈ s.readDoneEvent, u.Bounded :=
  of_bind fun a => of_ite (of_some (h.readDone a)) of_none

theorem searchEvent (h : s.Bounded) : ∀ u ∈ s.searchEvent, u.Bounded := by
  refine h.of_deliverNth fun a w c t ht => ?_
  dsimp only
  split
  · exact ht.searchDelivered _ _ _ _
  · exact ht

theorem timerEvent (h : s.Bounded) (bank : Nat) : ∀ u ∈ s.timerEvent bank, u.Bounded :=
  of_bind fun _ => of_ite (of_some (h.expire bank).settle) of_none

theorem reportEvent (h : s.Bounded) : ∀ u ∈ s.reportEvent, u.Bounded := by
  unfold State.reportEvent
  split
  · exact of_some (h.startReport _ _)
  · exact of_none

theorem clearEvent (h : s.Bounded) (n : Nat) : ∀ u ∈ s.clearEvent n, u.Bounded :=
  h.of_landNth fun _ _ ht => ht.engineCheck.settle

theorem renderWriteEvent (h : s.Bounded) (n : Nat) : ∀ u ∈ s.renderWriteEvent n, u.Bounded :=
  h.of_landNth fun _ _ ht => ht.engineCheck.settle

theorem renderReadEvent (h : s.Bounded) (n : Nat) : ∀ u ∈ s.renderReadEvent n, u.Bounded := by
  refine h.of_deliverNth fun a w c t ht => ?_
  dsimp only
  split
  · exact (ht.renderDelivered _ _ _).settle
  · exact ht

theorem replyStartEvent (h : s.Bounded) : ∀ u ∈ s.replyStartEvent, u.Bounded :=
  of_ite (of_map fun r _ => h.startReply r) of_none

theorem replyEvent (h : s.Bounded) : ∀ u ∈ s.replyEvent, u.Bounded :=
  of_bind fun _ => of_ite (of_some (h.landAll _ _).replyDone) of_none

theorem statusStartEvent (h : s.Bounded) : ∀ u ∈ s.statusStartEvent, u.Bounded :=
  of_ite (of_some h.startStatus) of_none

theorem statusEvent (h : s.Bounded) : ∀ u ∈ s.statusEvent, u.Bounded :=
  of_bind fun _ => of_ite (of_some (((h.landAll _ _).landAll _ _).finishStatus _)) of_none

theorem grantEvent (h : s.Bounded) (x : Option Upset) : ∀ u ∈ s.grantEvent x, u.Bounded :=
  of_map fun a _ => (((h.applyUpset _ _).granted a).afterGrant _).settle

theorem present (h : s.Bounded) (b : BusBeat) {t : State} (ht : s.present b = .next t) : t.Bounded := by
  unfold State.present at ht
  split at ht
  · cases ht
  · split at ht
    · exact Host.Outcome.next.inj ht ▸ h
    · exact Host.Outcome.next.inj ht ▸ h.arrive b

theorem holdLimitExpiry (h : s.Bounded) (m : Nat) {t : State} (ht : execHoldLimitExpiry m s = .next t) : t.Bounded := by
  unfold execHoldLimitExpiry at ht
  split at ht
  · exact Host.Outcome.next.inj ht ▸ h
  · split at ht
    · exact Host.Outcome.next.inj ht ▸ h
    · exact Host.Outcome.next.inj ht ▸ h.loseHeld _

/-- No command moves a table's size or a count past its bound. -/
theorem exec (h : s.Bounded) (c : Instr) {t : State} (ht : exec c s = .next t) : t.Bounded := by
  cases c with
  | resetAssert => exact Host.Outcome.next.inj ht ▸ ite h (hardReset s)
  | resetRelease => exact Host.Outcome.next.inj ht ▸ h.released _ _ _
  | frameBusReadBeat => exact h.present _ ht
  | frameBusWriteBeat => exact h.present _ ht
  | rawWriteBeat => exact h.present _ ht
  | cellReadBeat => exact h.present _ ht
  | cellWriteBeat => exact h.present _ ht
  | protectedWriteBeat => exact h.present _ ht
  | lockedRead => exact h.present _ ht
  | viewReadBeat => exact h.present _ ht
  | viewWriteBeat => exact h.present _ ht
  | holdLimitExpiry m => exact h.holdLimitExpiry m ht
  | frameBusReadDelivered n => exact h.happen (h.busReadEvent n) ht
  | frameBusWriteComplete n => exact h.happen (h.busWriteEvent _ n) ht
  | requestWord => exact h.happen (h.busWriteEvent _ 0) ht
  | postWord => exact h.happen (h.busWriteEvent _ 0) ht
  | acknowledgeWord => exact h.happen (h.busWriteEvent _ 0) ht
  | maskWord => exact h.happen (h.busWriteEvent _ 0) ht
  | viewPositionDelivered n => exact h.happen (h.viewEvent n) ht
  | commitPlan => exact h.happen (of_dispatched h.takeCommit) ht
  | planBodyBeatDelivered n => exact h.happen (h.planEvent n) ht
  | openProduct => exact h.happen (of_dispatched h.takeOpen) ht
  | freezeProduct => exact h.happen (of_dispatched fun r => (h.takeFreeze r).settle) ht
  | thawProduct => exact h.happen (of_dispatched h.takeThaw) ht
  | renderProduct => exact h.happen (of_dispatched h.takeRender) ht
  | discardProduct =>
    exact h.happen (of_bind fun r => of_ite of_none (of_some (h.takeDiscard r).settle)) ht
  | haltJob => exact h.happen (of_bind fun _ => of_ite of_none (of_some h.takeHalt)) ht
  | abortExposure => exact h.happen (of_dispatched fun r => (h.takeAbort r).settle) ht
  | abortSearchReadDelivered => exact h.happen h.searchEvent ht
  | releaseTile => exact h.happen (of_dispatched h.takeRelease) ht
  | restart => exact h.happen (of_dispatched fun _ => h.takeRestart) ht
  | portGrant x => exact h.happen (h.grantEvent x) ht
  | writeBackChoice => exact h.happen h.choiceEvent ht
  | writeBackComplete n => exact h.happen (h.writeBackEvent n) ht
  | rowApplyStart => exact h.happen h.applyEvent ht
  | pixelPresent => exact h.happen h.presentEvent ht
  | mergeFillDelivered => exact h.happen h.fillEvent ht
  | calFetchBeatDelivered n => exact h.happen (h.calEvent n) ht
  | activationAttempt => exact h.happen h.attemptEvent ht
  | descriptorReadDone => exact h.happen h.readDoneEvent ht
  | completionTimerExpiry bank => exact h.happen (h.timerEvent bank) ht
  | reportWriteStart => exact h.happen h.reportEvent ht
  | clearWriteComplete n => exact h.happen (h.clearEvent n) ht
  | renderReadDelivered n => exact h.happen (h.renderReadEvent n) ht
  | renderWriteComplete n => exact h.happen (h.renderWriteEvent n) ht
  | replyWriteStart => exact h.happen h.replyStartEvent ht
  | replyWriteComplete => exact h.happen h.replyEvent ht
  | statusWriteStart => exact h.happen h.statusStartEvent ht
  | statusWriteComplete => exact h.happen h.statusEvent ht
  | requestRecordReadDelivered => exact h.happen h.recordEvent ht

end State.Bounded

/-- Settles O3: a step is `exec` on the front command, and every command keeps the bounds (`State.Bounded.exec`), since
every operation it is made of does. -/
theorem boundedKept : Obligations.BoundedKept := by
  intro s t h ht
  unfold step at ht
  split at ht
  · exact Host.Outcome.next.inj ht ▸ h
  · next c rest _ => exact (h.setPending rest).exec c ht

end Sys2Proof.Machine

namespace Sys2Proof.Machine

/-! ### Raw write beats that no slot takes (O13) -/

section RawBeats

variable {s : State} {m : Nat} {a : BitVec 36} {i n : Nat} {e : BitVec 8} {d : Word} {bank : Nat}

/-- A raw write beat taken at its arrival is carried out by the row capture unit's front (R170, R26). -/
theorem State.Takes.rawWriteBeat (h : s.Takes (writeBeat m a i n e d))
    (hr : s.route (writeBeat m a i n e d).unit = .raw bank) :
    exec (.rawWriteBeat m a i n e d) s = .next (s.rawWrite bank (writeBeat m a i n e d)).settle := by
  have routed : exec (.rawWriteBeat m a i n e d) s = .next (s.routeBeat (writeBeat m a i n e d)).settle :=
    h.routed rfl (by simp [hr])
  rw [routed, State.routeBeat, hr]
  rfl

end RawBeats

/-- A write beat outside a locked pair that is not stored completes with its response alone. -/
theorem State.finishWrite_unpaired (s : State) {b : BusBeat} (h : b.pair = false) :
    s.finishWrite b = s.respond b .done := by
  simp [State.finishWrite, h]

theorem State.completeUnused_unpaired (s : State) (capture : Bool) {b : BusBeat} (h : b.pair = false) :
    s.completeUnused capture b = if capture then s.askStore false b else s.respond b .done := by
  rw [State.completeUnused, s.finishWrite_unpaired h]

/-- At an unbound bank a beat is counted and stored as ordinary memory (R26). -/
theorem State.rawWrite_unbound {s : State} {bank : Nat} (h : (s.bank bank).bound = false) (b : BusBeat) :
    s.rawWrite bank b = (s.countUnbound (s.bank bank).late).askStore false b := by
  simp [State.rawWrite, h]

/-- At a bound bank the four cases of R27 are asked in their order. -/
theorem State.rawWrite_bound {s : State} {bank : Nat} {r : ExposureRecord} (hb : (s.bank bank).bound = true)
    (hr : s.recordOf bank = some r) {b : BusBeat} {x : RawPlace} (hx : rawPlace (b.unit - s.bankBase bank) = x) :
    s.rawWrite bank b =
      if b.enables = 0#8 then s.completeUnused r.capture b
      else if s.isStray x then (s.onCapture fun c => { c with stray := satAdd c.stray 1 }).completeUnused r.capture b
      else if s.isExcluded r x.segment then
        (s.onRecord bank fun r =>
          { r with counters := { r.counters with excludedBeats := satAdd r.counters.excludedBeats 1 } }).completeUnused
          r.capture b
      else s.captureBeat ⟨b, bank, x.segment, x.row, x.column, s.holdLimit, true⟩ := by
  subst hx
  simp [State.rawWrite, hb, hr]

theorem State.isStray_iff (s : State) (x : RawPlace) :
    s.isStray x = true ↔ s.segment x.segment = none ∨
      ∃ g, s.segment x.segment = some g ∧ (g.rows ≤ x.row ∨ g.width + g.overscan ≤ x.column) := by
  unfold State.isStray
  split <;> simp_all

/-- A beat within the rows of a segment of the plan is not stray. -/
theorem State.isStray_eq_false {s : State} {x : RawPlace} {g : SegmentEntry} (hg : s.segment x.segment = some g)
    (hr : x.row < g.rows) (hc : x.column < g.width + g.overscan) : s.isStray x = false := by
  simp [State.isStray, hg, hr, hc]

theorem State.isExcluded_iff {s : State} {r : ExposureRecord} {segment : Nat} {g : SegmentEntry}
    (hg : s.segment segment = some g) : s.isExcluded r segment = true ↔ ∃ why, (g.tile, why) ∈ r.excluded := by
  simp [State.isExcluded, hg]

/-- Settles O13, by the branches of `State.rawWrite`. -/
theorem rawUnused : Obligations.RawUnused := by
  intro s m a i n e d bank b ht hroute
  rw [ht.rawWriteBeat hroute]
  refine ⟨fun hb => by rw [State.rawWrite_unbound hb]; rfl, ?_⟩
  intro r x hb hr hx finish
  have finishes (t : State) : t.completeUnused r.capture b = finish t := t.completeUnused_unpaired _ rfl
  rw [State.rawWrite_bound hb hr hx]
  refine ⟨fun he => ?_, fun he => ⟨fun hstray => ?_, fun g why hg hrow hcol hex => ?_⟩⟩
  · rw [if_pos (show b.enables = 0#8 from he), finishes]
  · rw [if_neg (show ¬b.enables = 0#8 from he), if_pos ((s.isStray_iff x).2 hstray), finishes]
    rfl
  · have stays := State.isStray_eq_false hg hrow hcol
    rw [if_neg (show ¬b.enables = 0#8 from he), stays, if_neg Bool.false_ne_true,
      if_pos ((State.isExcluded_iff hg).2 ⟨why, hex⟩), finishes]
    rfl

end Sys2Proof.Machine

namespace Sys2Proof.Machine

/-! ### The grant of the frame store port (O39) -/

/-- PORT_GRANT with an ask to grant and no upset: the ask is granted, its requester acts, and the step settles. -/
theorem State.exec_portGrant {s : State} {a : Ask} (hr : s.inReset = false) (ha : s.nextAsk = some a) :
    exec (.portGrant none) s = .next ((s.granted a).afterGrant a.job).settle := by
  change s.happen (s.grantEvent none) = _
  simp [State.happen, hr, State.grantEvent, ha]

/-- An upset moves neither the asks nor the ranks, so the arbiter's choice stands. -/
theorem State.applyUpset_nextAsk (s : State) (u : Nat) (x : Option Upset) : (s.applyUpset u x).nextAsk = s.nextAsk := by
  unfold State.applyUpset
  split
  · rfl
  · dsimp only
    split <;> rfl

/-- A grant with an upset is the grant without one in the part whose unit it has changed (log 4). -/
theorem State.exec_portGrant_upset {s : State} {a : Ask} (hr : s.inReset = false) (ha : s.nextAsk = some a)
    (x : Upset) : exec (.portGrant (some x)) s = exec (.portGrant none) (s.applyUpset a.unit (some x)) := by
  have running : (s.applyUpset a.unit (some x)).inReset = false :=
    (congrArg Kept.inReset (s.applyUpset_kept a.unit (some x))).trans hr
  rw [State.exec_portGrant running ((s.applyUpset_nextAsk _ _).trans ha)]
  change s.happen (s.grantEvent (some x)) = _
  simp [State.happen, hr, State.grantEvent, ha]

/-- The grant of an entry's write makes it WRITING and marks it granted in every flush's set (R101, R103). -/
theorem State.writeBackGranted_eq {s : State} {i : Nat} {e : Entry} (he : s.entry i = some e) :
    s.writeBackGranted i = (s.setEntry i (some { e with state := .writing, writeAsked := false })).onMerge fun m =>
      { m with flushes := m.flushes.map fun f =>
          { f with members := f.members.map fun x => if x.entry = i then { x with granted := true } else x } } := by
  simp [State.writeBackGranted, he]

/-- The grant of a report's unit finishes the descriptor when the unit is the report's last (R137, R138). -/
theorem State.afterGrant_reportUnit {s : State} {w : ReportWrite} (hw : s.expo.report = some w) (k : Nat) :
    s.afterGrant (.reportUnit k) = if k + 1 = w.units.length then (s.finishDescriptor w).expoAsk else s.expoAsk := by
  simp [State.afterGrant, hw]

theorem State.grantedData_writeBack {s : State} {i : Nat} {e : Entry} (he : s.entry i = some e) (w : WriteData) :
    s.grantedData (.writeBack i) w = ⟨0xFF#8, e.record.word⟩ := by
  simp [State.grantedData, he]

theorem State.grantedData_other (s : State) {j : Job} (hj : ∀ i, j ≠ .writeBack i) (w : WriteData) :
    s.grantedData j w = w := by
  unfold State.grantedData
  split
  · next i => exact absurd rfl (hj i)
  · rfl

/-- A whole write leaves its bytes and no trace of what the unit held (R187). -/
theorem writeResult_whole (old : StoredUnit) (w : Word) : writeResult old ⟨0xFF#8, w⟩ = (⟨w, .correct⟩, none) := by
  simp [writeResult]

theorem State.accessOf_read (s : State) {a : Ask} (hw : a.write = none) :
    s.accessOf a = ⟨a.job, a.unit, .read (s.unitNow a.unit).data (s.unitNow a.unit).condition⟩ := by
  simp [State.accessOf, hw]

theorem State.accessOf_write (s : State) {a : Ask} {w : WriteData} (hw : a.write = some w) :
    s.accessOf a = ⟨a.job, a.unit, .write (writeResult (s.unitNow a.unit) (s.grantedData a.job w)).1
      (writeResult (s.unitNow a.unit) (s.grantedData a.job w)).2⟩ := by
  simp [State.accessOf, hw]

/-- Settles O39: the requester's act is the arm of `State.afterGrant` for the job, and the access `State.accessOf`. -/
theorem grantMade : Obligations.GrantMade := by
  refine ⟨fun s a hr ha => ?_, fun s a => ?_⟩
  · intro g
    have grant {j : Job} {u : State} (hj : a.job = j) (hu : g.afterGrant j = u) :
        exec (.portGrant none) s = .next u.settle := by
      rw [← hu, ← hj]
      exact State.exec_portGrant hr ha
    refine ⟨?_, fun b hj => grant hj rfl, fun b ready hj => grant hj rfl, fun v hj => grant hj rfl, fun i e hj he => ?_, ?_, ?_, ?_,
      ?_, fun k w hj hw => ?_, fun hj => grant hj rfl, ?_, fun n hj => grant hj rfl, State.exec_portGrant_upset hr ha⟩
    · rintro (hj | hj | ⟨k, hj⟩) <;> exact grant hj rfl
    · have he' : g.entry i = some e := he
      exact grant hj (State.writeBackGranted_eq he')
    · rintro ⟨i, f, k, hj⟩
      exact grant hj rfl
    · rintro ⟨k, hj⟩
      exact grant hj rfl
    · rintro ⟨k, hj | hj⟩ <;> exact grant hj rfl
    · rintro ⟨k, hj | hj⟩ <;> exact grant hj rfl
    · have hw' : g.expo.report = some w := hw
      exact grant hj (State.afterGrant_reportUnit hw' k)
    · rintro ⟨c, hj⟩
      exact grant hj rfl
  · refine ⟨s.accessOf_read, fun w i e hw hj he => ?_, fun w hw hj => ?_⟩
    · rw [s.accessOf_write hw, hj, State.grantedData_writeBack he, writeResult_whole]
    · rw [s.accessOf_write hw, s.grantedData_other hj]

end Sys2Proof.Machine

namespace Sys2Proof.Machine

/-! ### A row enters APPLYING, and its bias estimate (O44) -/

/-- A slot reads as it was last set. -/
theorem State.slot_setSlot_same {s : State} {i : Nat} (hi : i < s.capture.slots.length) (v : Slot) :
    (s.setSlot i v).slot i = v := by
  simp [State.slot, State.setSlot, hi]

theorem State.slot_setSlot_other (s : State) {i j : Nat} (hj : j ≠ i) (v : Slot) :
    (s.setSlot i v).slot j = s.slot j := by
  simp [State.slot, State.setSlot, List.getD_eq_getElem?_getD, List.getElem?_set_ne hj.symm]

theorem State.imageWidth_eq {s : State} {i : Nat} {g : SegmentEntry} (hg : s.segment i = some g) :
    s.imageWidth i = g.width := by
  simp [State.imageWidth, hg]

/-- The row being applied goes on while its pixel waits or a pixel of it is left (R70). -/
theorem State.rowCheck_stays {s : State} {a : Applying} (ha : s.pipe.applying = some a)
    (h : a.pixel ≠ none ∨
      ((s.slot a.slot).nextPixel a.column (s.imageWidth (s.slot a.slot).segment)).isSome = true) :
    s.rowCheck = s := by
  simp only [State.rowCheck, ha]
  refine if_neg fun ⟨hp, hn⟩ => ?_
  rcases h with h | h
  · exact h (Option.isNone_iff_eq_none.1 hp)
  · rw [Option.isNone_iff_eq_none.1 hn] at h
    exact Bool.false_ne_true h

/-- The row being applied finishes with no pixel of it waiting and none left (R70). -/
theorem State.rowCheck_finishes {s : State} {a : Applying} (ha : s.pipe.applying = some a) (hp : a.pixel = none)
    (hn : (s.slot a.slot).nextPixel a.column (s.imageWidth (s.slot a.slot).segment) = none) :
    s.rowCheck = s.finishRow a := by
  simp [State.rowCheck, ha, hp, hn]

/-- The head of the ready queue becomes APPLYING with its bias; with a pixel to present its row goes on (R44). -/
theorem State.applyRow_eq {s : State} {i : Nat} (rest : List Nat) {g : SegmentEntry}
    (hi : i < s.capture.slots.length) (hg : s.segment (s.slot i).segment = some g)
    (hp : ((s.slot i).nextPixel 0 g.width).isSome = true) :
    let v := s.slot i
    let b := biasStep g.weight g.fixedBias (s.biasOf v.bank v.segment) (overscanMean g.overscan v.oscSum v.oscCount)
    s.applyRow i rest = ((s.setSlot i { v with state := .applying }).onCapture fun c => { c with ready := rest }).onPipe
      fun p => { bias := p.bias.set (256 * v.bank + v.segment) b, applying := some ⟨i, 0, biasAdu b.b16, none⟩ } := by
  intro v b
  let applied : State := ((s.setSlot i { v with state := .applying }).onCapture fun c => { c with ready := rest }).onPipe
    fun p => { bias := p.bias.set (256 * v.bank + v.segment) b, applying := some ⟨i, 0, biasAdu b.b16, none⟩ }
  have hb : (s.segment v.segment).map (fun e => biasStep e.weight e.fixedBias (s.biasOf v.bank v.segment)
      (overscanMean e.overscan v.oscSum v.oscCount)) = some b := by rw [hg]; rfl
  have hslot : applied.slot i = { v with state := .applying } := State.slot_setSlot_same hi _
  have himage : applied.imageWidth v.segment = g.width := State.imageWidth_eq (s := applied) hg
  have stays : applied.rowCheck = applied := by
    refine State.rowCheck_stays (a := ⟨i, 0, biasAdu b.b16, none⟩) rfl (.inr ?_)
    rw [hslot]
    change (v.nextPixel 0 (applied.imageWidth v.segment)).isSome = true
    rw [himage]
    exact hp
  simp only [State.applyRow]
  rw [hb]
  exact stays

/-- ROW_APPLY_START with no row APPLYING takes the head of the ready queue (R44). -/
theorem State.exec_rowApplyStart {s : State} {i : Nat} {rest : List Nat} (hr : s.inReset = false)
    (ha : s.pipe.applying = none) (hq : s.capture.ready = i :: rest) :
    exec .rowApplyStart s = .next (s.applyRow i rest).settle := by
  change s.happen s.applyEvent = _
  simp [State.happen, hr, State.applyEvent, ha, hq]

/-- A quotient by a positive number, rounded down, lies between 0 and the dividend. -/
theorem ediv_between (x : Int) {p : Int} (hp : 0 < p) : min 0 x ≤ x / p ∧ x / p ≤ max 0 x := by
  rcases le_total 0 x with hx | hx
  · exact ⟨(min_le_left _ _).trans (Int.ediv_nonneg hx hp.le), (Int.ediv_le_self _ hx).trans (le_max_right _ _)⟩
  · refine ⟨(min_le_right _ _).trans ((Int.le_ediv_iff_mul_le hp).2 ?_), ?_⟩
    · nlinarith
    · exact (Int.ediv_nonpos_of_nonpos_of_neg hx hp).trans (le_max_left _ _)

/-- The smoothing step of a seeded bias state, and where it lands (R64). -/
theorem biasStep_smooth (weight fixed : Nat) {b : Bias} (m : Nat) (hb : b.seeded = true) :
    (biasStep weight fixed b (some m)).seeded = true ∧
      ((biasStep weight fixed b (some m)).b16 : Int) = b.b16 + ((m : Int) - b.b16) / 2 ^ weight ∧
      min b.b16 m ≤ (biasStep weight fixed b (some m)).b16 ∧ (biasStep weight fixed b (some m)).b16 ≤ max b.b16 m := by
  obtain ⟨hlo, hhi⟩ := ediv_between ((m : Int) - b.b16) (p := 2 ^ weight) (by positivity)
  simp only [biasStep, hb, Nat.cast_pow, Nat.cast_ofNat]
  refine ⟨trivial, ?_, ?_, ?_⟩ <;> omega

/-- The bias in ADU lies within 16 bits (R65). -/
theorem biasAdu_le {b16 : Nat} (h : b16 ≤ 1048560) : biasAdu b16 ≤ 65535 := by
  unfold biasAdu
  omega

/-- The bias estimate stays within the sixteenths of a pixel value (R64). -/
theorem biasStep_le {weight fixed : Nat} {b : Bias} {mean : Option Nat} (hf : fixed ≤ 65535) (hb : b.b16 ≤ 1048560)
    (hm : ∀ m ∈ mean, m ≤ 1048560) : (biasStep weight fixed b mean).b16 ≤ 1048560 := by
  cases hs : b.seeded with
  | false =>
    cases mean with
    | none => simp only [biasStep, hs]; omega
    | some m => simpa [biasStep, hs] using hm m rfl
  | true =>
    cases mean with
    | none => simpa [biasStep, hs] using hb
    | some m =>
      have hm' := hm m rfl
      obtain ⟨-, -, -, h⟩ := biasStep_smooth weight fixed m hs
      omega

/-- Settles O44. -/
theorem rowApplied : Obligations.RowApplied := by
  refine ⟨?_, fun weight fixed b m _ hf hb hm => ⟨?_, ?_, ?_, ?_, ?_⟩⟩
  · intro s i rest g hr ha hq hg hp hi
    rw [State.exec_rowApplyStart hr ha hq, State.applyRow_eq rest hi hg hp]
    rfl
  · intro hs; simp [biasStep, hs]
  · intro hs; simp [biasStep, hs]
  · intro hs; simp [biasStep, hs]
  · intro hs
    rw [Int.fdiv_eq_ediv_of_nonneg _ (by positivity)]
    exact biasStep_smooth weight fixed m hs
  · intro mean hmean
    have le := biasStep_le (weight := weight) (mean := mean) hf hb (by rcases hmean with rfl | rfl <;> simp [hm])
    exact ⟨le, biasAdu_le le⟩

end Sys2Proof.Machine

namespace Sys2Proof.Machine

/-! ### The records of the active exposures -/

theorem State.recordOf_bank {s : State} {bank : Nat} {r : ExposureRecord} (h : s.recordOf bank = some r) :
    r.bank = bank := by
  simpa using List.find?_some h

/-- A change of a bank's record that keeps its bank is what the bank's record then reads as. -/
theorem State.recordOf_onRecord (s : State) {bank : Nat} {f : ExposureRecord → ExposureRecord}
    (hf : ∀ r, (f r).bank = r.bank) (k : Nat) :
    (s.onRecord bank f).recordOf k = (s.recordOf k).map fun r => if r.bank = bank then f r else r := by
  simp only [State.recordOf, State.onRecord, State.onExpo_expo, List.find?_map]
  congr 2
  funext r
  simp only [Function.comp_apply]
  split <;> simp [hf]

theorem State.recordOf_onRecord_same {s : State} {bank : Nat} {r : ExposureRecord} (h : s.recordOf bank = some r)
    {f : ExposureRecord → ExposureRecord} (hf : ∀ r, (f r).bank = r.bank) :
    (s.onRecord bank f).recordOf bank = some (f r) := by
  rw [s.recordOf_onRecord hf, h, Option.map_some, if_pos (State.recordOf_bank h)]

/-- Two changes of a bank's record are one. -/
theorem State.onRecord_onRecord (s : State) {bank : Nat} {f : ExposureRecord → ExposureRecord}
    (hf : ∀ r, (f r).bank = r.bank) (g : ExposureRecord → ExposureRecord) :
    (s.onRecord bank f).onRecord bank g = s.onRecord bank fun r => g (f r) := by
  simp only [State.onRecord, State.onExpo, List.map_map]
  congr 2
  refine List.map_congr_left fun r _ => ?_
  by_cases h : r.bank = bank <;> simp [h, hf]

/-! ### The slots of an exposure -/

theorem State.mem_slotsOf {s : State} {bank : Nat} {pick : SlotState → Bool} {i : Nat} :
    i ∈ s.slotsOf bank pick ↔
      i < s.capture.slots.length ∧ (s.slot i).bank = bank ∧ pick (s.slot i).state = true := by
  simp [State.slotsOf]

theorem State.slotsOf_congr {s t : State} (h : t.capture.slots = s.capture.slots) (bank : Nat)
    (pick : SlotState → Bool) : t.slotsOf bank pick = s.slotsOf bank pick := by
  unfold State.slotsOf State.slot
  rw [h]

theorem SlotState.isCollecting_eq (x : SlotState) : x.isCollecting = decide (x = .collecting) := by
  cases x <;> rfl

theorem SlotState.isHeld_eq_true {x : SlotState} : x.isHeld = true ↔ x ≠ .free := by
  cases x <;> simp [SlotState.isHeld]

theorem SlotState.abortable_eq (x : SlotState) :
    x.abortable = (decide (x = .collecting) || decide (x = .closed) || decide (x = .queued)) := by
  cases x <;> rfl

/-- A slot of the table reads as its place in the list, one beyond it FREE. -/
theorem State.slot_mem {s : State} {i : Nat} (hi : i < s.capture.slots.length) : s.slot i ∈ s.capture.slots := by
  rw [State.slot, List.getD_eq_getElem _ _ hi]
  exact List.getElem_mem hi

theorem State.slot_beyond {s : State} {i : Nat} (hi : s.capture.slots.length ≤ i) : s.slot i = Slot.blank :=
  List.getD_eq_default _ _ hi

theorem State.exists_slot {s : State} {v : Slot} (hv : v ∈ s.capture.slots) :
    ∃ i < s.capture.slots.length, s.slot i = v := by
  obtain ⟨i, hi, rfl⟩ := List.mem_iff_getElem.1 hv
  exact ⟨i, hi, List.getD_eq_getElem _ _ hi⟩

/-- An exposure holds no slot exactly when every slot of its bank is FREE. -/
theorem State.slotsOf_isHeld_eq_nil {s : State} {bank : Nat} :
    s.slotsOf bank SlotState.isHeld = [] ↔ ∀ v ∈ s.capture.slots, v.bank = bank → v.state = .free := by
  simp only [List.eq_nil_iff_forall_not_mem, State.mem_slotsOf, SlotState.isHeld_eq_true]
  constructor
  · intro h v hv hb
    obtain ⟨i, hi, rfl⟩ := State.exists_slot hv
    exact not_not.1 fun hf => h i ⟨hi, hb, hf⟩
  · rintro h i ⟨hi, hb, hf⟩
    exact hf (h _ (State.slot_mem hi) hb)

/-! ### Unbinding (R26, R42) -/

/-- The response of a held beat that is given ready. -/
def HeldBeat.response (h : HeldBeat) : Response := ⟨h.beat.master, h.beat.unit, .done⟩

/-- The ask that stores a held beat given ready. -/
def HeldBeat.storeAsk (h : HeldBeat) : Ask := ⟨.busWrite h.beat true, h.beat.unit, some ⟨h.beat.enables, h.beat.data⟩⟩

/-- A count after the beats of `out` have been counted on it, if they are. -/
def countedOn (on : Bool) (out : List HeldBeat) (n : Nat) : Nat :=
  if on then out.foldl (fun k _ => min (k + 1) 4294967295) n else n

/-- The beats that an unbinding releases: each given ready, its store asked, and counted. -/
theorem State.foldl_release (late : Bool) (out : List HeldBeat) (s : State) :
    out.foldl (fun t h => State.countUnbound late ((t.respond h.beat .done).askStore true h.beat)) s =
      { s with
        bus := { s.bus with responses := s.bus.responses ++ out.map HeldBeat.response }
        port := { s.port with asks := s.port.asks ++ out.map HeldBeat.storeAsk }
        capture := { s.capture with
          late := countedOn late out s.capture.late
          unclaimed := countedOn (!late) out s.capture.unclaimed } } := by
  induction out generalizing s with
  | nil => cases late <;> simp [countedOn]
  | cons h out ih =>
    rw [List.foldl_cons, ih]
    cases late <;> simp [countedOn, State.countUnbound, State.respond, State.askStore, State.ask, State.onBus,
      State.onPort, State.onCapture, HeldBeat.response, HeldBeat.storeAsk, satAdd, max32]

theorem State.unbind_unbound {s : State} {bank : Nat} (h : (s.bank bank).bound = false) (late : Bool) :
    s.unbind bank late = s := by
  simp [State.unbind, h]

/-- Unbinding a bound bank, in full. -/
theorem State.unbind_bound {s : State} {bank : Nat} (h : (s.bank bank).bound = true) (late : Bool) :
    s.unbind bank late =
      let out := s.capture.held.filter fun x => decide (x.bank = bank)
      { s with
        bus := { s.bus with responses := s.bus.responses ++ out.map HeldBeat.response }
        port := { s.port with asks := s.port.asks ++ out.map HeldBeat.storeAsk }
        capture := { s.capture with
          banks := s.capture.banks.set bank ⟨false, late || (s.bank bank).late⟩
          held := s.capture.held.filter fun x => !decide (x.bank = bank)
          late := countedOn late out s.capture.late
          unclaimed := countedOn (!late) out s.capture.unclaimed } } := by
  rw [State.unbind, if_pos h, State.releaseHeld, State.foldl_release]
  rfl

/-- With no beat held, unbinding a bank changes its binding alone. -/
theorem State.unbind_nothing_held {s : State} {bank : Nat} (h : (s.bank bank).bound = true)
    (hh : s.capture.held = []) (late : Bool) :
    s.unbind bank late = s.setBank bank ⟨false, late || (s.bank bank).late⟩ := by
  rw [State.unbind_bound h]
  cases late <;> simp [hh, countedOn, State.setBank, State.onCapture]

@[simp] theorem State.unbind_slots (s : State) (bank : Nat) (late : Bool) :
    (s.unbind bank late).capture.slots = s.capture.slots := by
  cases h : (s.bank bank).bound with
  | false => rw [State.unbind_unbound h]
  | true => rw [State.unbind_bound h]

/-! ### Draining (R136) -/

/-- An ended exposure with no slot of its own enters DRAINING and its flush starts. -/
theorem State.drainCheck_drains {s : State} {bank : Nat} {r : ExposureRecord} (hr : s.recordOf bank = some r)
    (ha : r.state = .active) (he : r.endStatus ≠ none) (hs : s.slotsOf bank SlotState.isHeld = []) :
    s.drainCheck bank = (s.onRecord bank fun r => { r with state := .draining }).beginFlush (.drain bank)
      fun p => decide (p = r.product) := by
  simp [State.drainCheck, hr, ha, hs, Option.isSome_iff_ne_none.2 he]

/-- Any other does not. -/
theorem State.drainCheck_stays {s : State} {bank : Nat} {r : ExposureRecord} (hr : s.recordOf bank = some r)
    (h : r.state = .draining ∨ r.endStatus = none ∨ s.slotsOf bank SlotState.isHeld ≠ []) :
    s.drainCheck bank = s := by
  simp only [State.drainCheck, hr]
  refine if_neg fun ⟨ha, he, hs⟩ => ?_
  rcases h with h | h | h
  · rw [h] at ha
    exact RecordState.noConfusion ha
  · rw [h] at he
    exact Bool.false_ne_true he
  · exact h hs

/-- With no beat held, no slot is handed on. -/
theorem State.handOn_nothing_held {s : State} (h : s.capture.held = []) : s.handOn = s := by
  simp [State.handOn, h, State.handSlots]

/-! ### The completion timer (O50) -/

/-- An exposure with no row being collected closes none. -/
theorem State.closeCollecting_none {s : State} {bank : Nat} (h : s.slotsOf bank SlotState.isCollecting = []) :
    s.closeCollecting bank = s := by
  simp [State.closeCollecting, h]

/-- The rows being collected close SHORT in the order of their slots, as any part with the same slots tells them. -/
theorem State.closeCollecting_eq {s t : State} (h : t.capture.slots = s.capture.slots) (bank : Nat) :
    t.closeCollecting bank = ((List.range s.capture.slots.length).filter fun i =>
      decide ((s.slot i).bank = bank) && decide ((s.slot i).state = .collecting)).foldl
        (fun t i => t.closeRow i .short (t.slot i).next) t := by
  rw [State.closeCollecting, State.slotsOf_congr h]
  simp only [State.slotsOf, SlotState.isCollecting_eq]
  rfl

/-- COMPLETION_TIMER_EXPIRY of an exposure that has not ended (R130). -/
theorem State.exec_completionTimerExpiry {s : State} {bank : Nat} {r : ExposureRecord} (hr : s.inReset = false)
    (hx : s.recordOf bank = some r) (ha : r.state = .active) (he : r.endStatus = none) :
    exec (.completionTimerExpiry bank) s = .next (s.expire bank).settle := by
  change s.happen (s.timerEvent bank) = _
  simp [State.happen, hr, State.timerEvent, hx, ha, he]

/-- The exposure of a bank as its timer leaves it. -/
def ExposureRecord.timeOut (r : ExposureRecord) : ExposureRecord :=
  { r with endStatus := some .timedOut, elapsed := r.limit }

/-- With no row being collected and no beat held, an expiry unbinds the bank and looks whether the exposure drains. -/
theorem State.expire_quietly {s : State} {bank : Nat} (hb : (s.bank bank).bound = true) (hh : s.capture.held = [])
    (hc : s.slotsOf bank SlotState.isCollecting = []) :
    s.expire bank = ((s.onRecord bank ExposureRecord.timeOut).setBank bank ⟨false, true⟩).drainCheck bank := by
  have unbound : (s.onRecord bank ExposureRecord.timeOut).unbind bank true =
      (s.onRecord bank ExposureRecord.timeOut).setBank bank ⟨false, true⟩ :=
    State.unbind_nothing_held (s := s.onRecord bank ExposureRecord.timeOut) hb hh true
  have none_open : ((s.onRecord bank ExposureRecord.timeOut).setBank bank ⟨false, true⟩).slotsOf bank
      SlotState.isCollecting = [] := hc
  change (((((s.onRecord bank ExposureRecord.timeOut).unbind bank true).closeCollecting bank).handOn).drainCheck bank) = _
  rw [unbound, State.closeCollecting_none none_open, State.handOn_nothing_held]
  exact hh

/-- Settles O50. -/
theorem timerExpired : Obligations.TimerExpired := by
  intro s bank r hr hx ha he
  rw [State.exec_completionTimerExpiry hr hx ha he]
  refine ⟨?_, fun hb hh hc => ?_⟩
  · intro ended open_ closed
    have hclosed : ended.closeCollecting bank = closed := State.closeCollecting_eq (State.unbind_slots ..) bank
    exact congrArg (fun t => Host.Outcome.next (State.settle ((State.handOn t).drainCheck bank))) hclosed
  · have timed : ((s.onRecord bank ExposureRecord.timeOut).setBank bank ⟨false, true⟩).recordOf bank =
        some r.timeOut := State.recordOf_onRecord_same hx (f := ExposureRecord.timeOut) fun _ => rfl
    rw [State.expire_quietly hb hh hc]
    have same_slots := State.slotsOf_congr (s := s) (t := (s.onRecord bank ExposureRecord.timeOut).setBank bank
      ⟨false, true⟩) rfl bank SlotState.isHeld
    refine ⟨fun hs => ?_, fun hs => ?_⟩
    · rw [State.drainCheck_stays timed (.inr (.inr (same_slots ▸ hs)))]
      rfl
    · have drains := State.drainCheck_drains timed ha (Option.some_ne_none _) (same_slots.trans hs)
      have merged := s.onRecord_onRecord (bank := bank) (f := ExposureRecord.timeOut) (fun _ => rfl)
        fun r => { r with state := .draining }
      refine congrArg (fun t : State => Host.Outcome.next t.settle) (drains.trans ?_)
      exact congrArg (fun t : State => (t.setBank bank ⟨false, true⟩).beginFlush (.drain bank)
        fun p => decide (p = r.product)) merged

end Sys2Proof.Machine

namespace Sys2Proof.Machine

/-! ### Freed slots (R46, R58) -/

/-- Nothing is fetched for slot `i`: no fetch of it is listed, and no read for it asked or in flight. -/
structure State.Unfetched (s : State) (i : Nat) : Prop where
  fetches : ∀ f ∈ s.fetch, f.slot ≠ i
  asks : ∀ k ∈ s.port.asks, isCalReadOf i k.job = false
  flying : ∀ k ∈ s.port.inFlight, isCalReadOf i k.job = false

/-- What the fetch unit asks next is for a fetch of its list. -/
theorem State.Unfetched.fetchAsk {s : State} {i : Nat} (h : s.Unfetched i) : s.fetchAsk.Unfetched i := by
  unfold State.fetchAsk
  split
  · exact h
  · split
    · exact h
    · next f rest hf =>
      have hslot : f.slot ≠ i := h.fetches f (hf ▸ List.mem_cons_self)
      split
      · refine ⟨?_, ?_, h.flying⟩
        · exact List.forall_mem_cons.2 ⟨hslot, fun g hg => h.fetches g (hf ▸ List.mem_cons_of_mem _ hg)⟩
        · refine List.forall_mem_append.2 ⟨h.asks, List.forall_mem_singleton.2 ?_⟩
          simpa [isCalReadOf] using hslot
      · exact h

/-- A slot's own freeing leaves nothing fetched for it. -/
theorem State.freeSlot_unfetched (s : State) (i : Nat) : (s.freeSlot i).Unfetched i := by
  refine State.Unfetched.fetchAsk ⟨?_, ?_, ?_⟩
  · intro f hf
    simpa using (List.mem_filter.1 hf).2
  · intro k hk
    simpa using (List.mem_filter.1 hk).2
  · intro k hk
    obtain ⟨x, -, rfl⟩ := List.mem_map.1 hk
    split
    · rfl
    · next hx => simpa using hx

/-- Another slot's freeing begins no fetch. -/
theorem State.Unfetched.freeSlot {s : State} {i : Nat} (h : s.Unfetched i) (j : Nat) : (s.freeSlot j).Unfetched i := by
  refine State.Unfetched.fetchAsk ⟨?_, ?_, ?_⟩
  · intro f hf
    exact h.fetches f (List.mem_filter.1 hf).1
  · intro k hk
    exact h.asks k (List.mem_filter.1 hk).1
  · intro k hk
    obtain ⟨x, hx, rfl⟩ := List.mem_map.1 hk
    split
    · rfl
    · exact h.flying x hx

@[simp] theorem State.fetchAsk_capture (s : State) : s.fetchAsk.capture = s.capture := by
  unfold State.fetchAsk
  split
  · rfl
  · split
    · rfl
    · split <;> rfl

@[simp] theorem State.freeSlot_capture (s : State) (i : Nat) :
    (s.freeSlot i).capture = (s.setSlot i Slot.blank).capture := by
  rw [State.freeSlot, State.abandonFetches, State.fetchAsk_capture]
  rfl

/-- A freed slot reads FREE, one beyond the table as it always does, and the others as before. -/
theorem State.slot_freeSlot (s : State) (i j : Nat) :
    (s.freeSlot i).slot j = if j = i then Slot.blank else s.slot j := by
  have h : (s.freeSlot i).slot j = (s.setSlot i Slot.blank).slot j := by
    rw [State.slot, State.freeSlot_capture]
    rfl
  rw [h]
  split
  · next hj =>
    subst hj
    by_cases hi : j < s.capture.slots.length
    · exact State.slot_setSlot_same hi _
    · exact State.slot_beyond (by simpa [State.setSlot] using hi)
  · next hj => exact s.slot_setSlot_other hj _

/-- Slots freed one after another read FREE, and the others as before. -/
theorem State.slot_foldl_freeSlot (out : List Nat) (s : State) (j : Nat) :
    (out.foldl (fun t i => t.freeSlot i) s).slot j = if j ∈ out then Slot.blank else s.slot j := by
  induction out generalizing s with
  | nil => simp
  | cons i out ih =>
    rw [List.foldl_cons, ih, State.slot_freeSlot]
    by_cases hj : j = i <;> simp [hj]

theorem State.ready_foldl_freeSlot (out : List Nat) (s : State) :
    (out.foldl (fun t i => t.freeSlot i) s).capture.ready = s.capture.ready := by
  induction out generalizing s with
  | nil => rfl
  | cons i out ih =>
    rw [List.foldl_cons, ih, State.freeSlot_capture]
    rfl

theorem State.Unfetched.foldl_freeSlot {s : State} {i : Nat} (h : s.Unfetched i) (out : List Nat) :
    (out.foldl (fun t i => t.freeSlot i) s).Unfetched i := by
  induction out generalizing s with
  | nil => exact h
  | cons j out ih => exact ih (h.freeSlot j)

theorem State.foldl_freeSlot_unfetched (out : List Nat) (s : State) {i : Nat} (hi : i ∈ out) :
    (out.foldl (fun t i => t.freeSlot i) s).Unfetched i := by
  induction out generalizing s with
  | nil => exact absurd hi List.not_mem_nil
  | cons j out ih =>
    rcases List.mem_cons.1 hi with rfl | hi
    · exact (s.freeSlot_unfetched i).foldl_freeSlot out
    · exact ih (s.freeSlot j) hi

/-- R46: the slots that an abort frees, as a test of a slot's number. -/
def State.abortFrees (s : State) (bank i : Nat) : Bool :=
  decide ((s.slot i).bank = bank) && (decide ((s.slot i).state = .collecting) ||
    decide ((s.slot i).state = .closed) || decide ((s.slot i).state = .queued))

theorem State.mem_abortable_iff {s : State} {bank i : Nat} :
    i ∈ s.slotsOf bank SlotState.abortable ↔ s.abortFrees bank i = true := by
  rw [State.mem_slotsOf, State.abortFrees, SlotState.abortable_eq, Bool.and_eq_true, decide_eq_true_eq]
  refine ⟨fun ⟨_, hb, hs⟩ => ⟨hb, hs⟩, fun ⟨hb, hs⟩ => ⟨?_, hb, hs⟩⟩
  by_contra hi
  rw [State.slot_beyond (not_lt.1 hi)] at hs
  exact absurd hs (by decide)

/-- An exposure's rows freed without being applied (R46). -/
theorem State.freeUnapplied_spec (s : State) (bank : Nat) :
    (∀ i, (s.freeUnapplied bank).slot i = if s.abortFrees bank i then Slot.blank else s.slot i) ∧
      (s.freeUnapplied bank).capture.ready = s.capture.ready.filter (fun i => !s.abortFrees bank i) ∧
      ∀ i, s.abortFrees bank i = true → (s.freeUnapplied bank).Unfetched i := by
  refine ⟨fun i => ?_, ?_, fun i hi => State.foldl_freeSlot_unfetched _ _ (State.mem_abortable_iff.2 hi)⟩
  · rw [State.freeUnapplied, State.slot_foldl_freeSlot]
    simp only [State.mem_abortable_iff]
    rfl
  · rw [State.freeUnapplied, State.ready_foldl_freeSlot]
    refine List.filter_congr fun i _ => ?_
    rw [Bool.not_eq_eq_eq_not, Bool.not_not, Bool.eq_iff_iff, List.contains_iff_mem, State.mem_abortable_iff]

/-- With no slot to free, freeing an exposure's rows changes nothing. -/
theorem State.freeUnapplied_none {s : State} {bank : Nat} (h : s.slotsOf bank SlotState.abortable = []) :
    s.freeUnapplied bank = s := by
  simp only [State.freeUnapplied, h, List.foldl_nil, List.contains_nil, Bool.not_false, List.filter_true]
  rfl

/-! ### ABORT_EXPOSURE (O34) -/

theorem State.exec_abortExposure {s : State} {r : RequestRecord} (h : s.Dispatched 8 r) :
    exec .abortExposure s = .next (s.takeAbort r).settle := by
  obtain ⟨hr, hd⟩ := h
  change s.happen ((s.dispatched 8).map fun r => (s.takeAbort r).settle) = _
  simp [State.happen, hr, hd]

theorem State.takeAbort_unplanned {s : State} (h : s.part ≠ .planned) (r : RequestRecord) :
    s.takeAbort r = s.reply .noPlan Detail.zero := by
  simp [State.takeAbort, h]

/-- With an exposure of the tag, what ABORT_EXPOSURE does with it (R132, R133). -/
theorem State.takeAbort_found {s : State} {r : RequestRecord} {x : ExposureRecord} (hp : s.part = .planned)
    (hx : s.expo.records.find? (fun y => decide (y.tag = r.tag)) = some x) :
    s.takeAbort r = if x.state = .active ∧ (x.endStatus = none ∨ x.endStatus = some .timedOut) then
      (s.abortRecord x.bank).reply .done (descriptorDetail x.number)
      else s.reply .badState (descriptorDetail x.number) := by
  simp [State.takeAbort, hp, hx]

/-- With no exposure of the tag, the search begins (R132). -/
theorem State.takeAbort_search {s : State} {r : RequestRecord} (hp : s.part = .planned)
    (hx : ∀ x ∈ s.expo.records, x.tag ≠ r.tag) :
    s.takeAbort r = ((s.keepInHand 0).beginTask .search).searchNext [] := by
  have hnone : s.expo.records.find? (fun y => decide (y.tag = r.tag)) = none := by
    simpa [List.find?_eq_none] using hx
  simp [State.takeAbort, hp, hnone]

/-- An exposure's end by an abort: one that has an end status keeps it (R133). -/
def ExposureRecord.abort (r : ExposureRecord) : ExposureRecord :=
  { r with endStatus := r.endStatus.or (some .aborted) }

theorem State.endAborted_eq (s : State) (bank : Nat) :
    s.endAborted bank = (s.onRecord bank ExposureRecord.abort).unbind bank true := by
  rw [State.endAborted]
  refine congrArg (fun f => (s.onRecord bank f).unbind bank true) (funext fun r => ?_)
  unfold ExposureRecord.abort
  cases r.endStatus <;> rfl

/-- With no beat held and no slot of its own, an abort unbinds the bank and the exposure drains. -/
theorem State.abortRecord_quietly {s : State} {bank : Nat} {x : ExposureRecord} (hx : s.recordOf bank = some x)
    (ha : x.state = .active) (hb : (s.bank bank).bound = true) (hh : s.capture.held = [])
    (hs : ∀ v ∈ s.capture.slots, v.bank = bank → v.state = .free) :
    s.abortRecord bank = ((s.onRecord bank fun y => { y.abort with state := .draining }).setBank bank
      ⟨false, true⟩).beginFlush (.drain bank) fun p => decide (p = x.product) := by
  let t : State := (s.onRecord bank ExposureRecord.abort).setBank bank ⟨false, true⟩
  have unbound : s.endAborted bank = t :=
    (s.endAborted_eq bank).trans (State.unbind_nothing_held (s := s.onRecord bank ExposureRecord.abort) hb hh true)
  have held_none : t.slotsOf bank SlotState.isHeld = [] := State.slotsOf_isHeld_eq_nil.2 hs
  have abortable_none : t.slotsOf bank SlotState.abortable = [] := by
    refine List.eq_nil_iff_forall_not_mem.2 fun i hi => List.eq_nil_iff_forall_not_mem.1 held_none i ?_
    obtain ⟨hlen, hbank, hst⟩ := State.mem_slotsOf.1 hi
    refine State.mem_slotsOf.2 ⟨hlen, hbank, SlotState.isHeld_eq_true.2 fun hf => ?_⟩
    rw [hf] at hst
    exact Bool.false_ne_true hst
  have aborted : t.recordOf bank = some x.abort :=
    State.recordOf_onRecord_same hx (f := ExposureRecord.abort) fun _ => rfl
  have ended : x.abort.endStatus ≠ none := by
    unfold ExposureRecord.abort
    cases x.endStatus <;> exact Option.some_ne_none _
  have drains := State.drainCheck_drains aborted ha ended held_none
  have merged := s.onRecord_onRecord (bank := bank) (f := ExposureRecord.abort) (fun _ => rfl)
    fun r => { r with state := .draining }
  rw [State.abortRecord, unbound, State.freeUnapplied_none abortable_none, State.handOn_nothing_held (s := t) hh, drains]
  exact congrArg (fun u : State => (u.setBank bank ⟨false, true⟩).beginFlush (.drain bank)
    fun p => decide (p = x.product)) merged

/-! ### The abort search (O34) -/

/-- A descriptor that the search can read: PENDING without the abort mark (R132). -/
def RingEntry.wanted (c : RingEntry) : Bool := decide (c.state = .pending) && c.mark.isNone

/-- A controller with no port work asks for nothing (R182). -/
theorem State.expoAsk_idle {s : State} (h : s.expo.tasks = []) : s.expoAsk = s := by
  simp [State.expoAsk, h]

/-- A controller with nothing else to do asks for the search's read at once. -/
theorem State.expoAsk_search {s : State} {q : Search} (ht : s.expo.tasks = [.search]) (hq : s.expo.search = some q)
    (hasked : q.asked = false) (ha : s.asking isExpoJob = false) :
    s.expoAsk = (s.onExpo fun e => { e with search := some { q with asked := true } }).ask
      ⟨.searchRead q.current, s.ringAddr q.current, none⟩ := by
  simp [State.expoAsk, ha, ht, State.taskAsk, hq, hasked]

theorem RingEntry.wanted_fresh : (fun c : RingEntry => decide (c.state = .pending) && c.mark.isNone &&
    !([] : List Nat).contains c.number) = RingEntry.wanted := by
  funext c
  simp [RingEntry.wanted]

/-- A search begins with the oldest descriptor it can read. -/
theorem State.searchNext_found {s : State} {c : RingEntry} (h : s.expo.ring.find? RingEntry.wanted = some c) :
    s.searchNext [] = (s.onSearch (some ⟨[], c.number, false⟩)).expoAsk := by
  simp only [State.searchNext, RingEntry.wanted_fresh, h]

/-- A search that finds none to read ends NOT_FOUND. -/
theorem State.searchNext_notFound {s : State} (h : s.expo.ring.find? RingEntry.wanted = none) :
    s.searchNext [] = (((s.onSearch none).endTask .search).reply .notFound Detail.zero).expoAsk := by
  simp only [State.searchNext, RingEntry.wanted_fresh, h]

/-- A search that finds nothing to read leaves an otherwise idle controller idle. -/
theorem State.search_nothing {s : State} (h : s.expo.ring.find? RingEntry.wanted = none) (ht : s.expo.tasks = []) :
    (s.beginTask .search).searchNext [] =
      (s.onExpo fun e => { e with search := none }).reply .notFound Detail.zero := by
  have ended : ((s.beginTask .search).onSearch none).endTask .search = s.onExpo fun e => { e with search := none } := by
    simp [State.beginTask, State.onSearch, State.endTask, State.onExpo, ht]
  rw [State.searchNext_notFound (s := s.beginTask .search) h, ended, State.expoAsk_idle]
  rw [State.reply_expo]
  exact ht

/-- A search that finds a descriptor asks for its read at once where the controller has nothing else to do. -/
theorem State.search_begins {s : State} {c : RingEntry} (h : s.expo.ring.find? RingEntry.wanted = some c)
    (ht : s.expo.tasks = []) (ha : s.asking isExpoJob = false) :
    (s.beginTask .search).searchNext [] = (s.onExpo fun e =>
      { e with tasks := [.search], search := some ⟨[], c.number, true⟩ }).ask
        ⟨.searchRead c.number, s.ringAddr c.number, none⟩ := by
  have begun : (s.beginTask .search).onSearch (some ⟨[], c.number, false⟩) = s.onExpo fun e =>
      { e with tasks := [.search], search := some ⟨[], c.number, false⟩ } := by
    simp [State.beginTask, State.onSearch, State.onExpo, ht]
  rw [State.searchNext_found (s := s.beginTask .search) h, begun]
  exact State.expoAsk_search (q := ⟨[], c.number, false⟩) rfl rfl rfl ha

/-- The read of the search that is delivered (R132, R134). -/
theorem State.exec_abortSearchReadDelivered {s : State} {number unit : Nat} {data : Word} {found : EccCondition}
    {rest : List Access} {q : Search} (h : s.Delivers isSearchRead 0 (.searchRead number) unit data found rest)
    (hq : s.expo.search = some q) :
    exec .abortSearchReadDelivered s = .next ((s.delivered found rest).searchDelivered q number data found) := by
  change s.happen s.searchEvent = _
  simp [State.happen, h.running, State.searchEvent, h.deliverNth, hq]

/-- The marker of a unit read as a record's first (Table 12-4). -/
theorem field_marker (w : Word) : field (bytesOf [w]) 0 4 = (w.extractLsb' 0 32).toNat := by
  have : w.toNat < 2 ^ 64 := w.isLt
  simp [bytesOf_cons, field, Word.byte, BitVec.extractLsb'_toNat]
  omega

theorem field_tag (w : Word) : field (bytesOf [w]) 4 1 = (w.extractLsb' 32 8).toNat := by
  simp [bytesOf_cons, field, Word.byte]

/-- The ring holds the descriptor, PENDING without the abort mark (R134). -/
def State.pendingUnmarked (s : State) (number : Nat) : Bool :=
  s.expo.ring.any fun r => decide (r.number = number) && decide (r.state = .pending) && r.mark.isNone

theorem State.pendingUnmarked_iff {s : State} {number : Nat} : s.pendingUnmarked number = true ↔
    ∃ c ∈ s.expo.ring, c.number = number ∧ c.state = .pending ∧ c.mark = none := by
  simp [State.pendingUnmarked, and_assoc]

/-- What a delivered read of the search does, for the request in hand (R132, R134). -/
theorem State.searchDelivered_eq {s : State} {h : Request} (hh : s.bus.inHand = some h) (q : Search) (number : Nat)
    (data : Word) (found : EccCondition) :
    s.searchDelivered q number data found =
      if found ≠ .uncorrectable ∧ field (bytesOf [data]) 0 4 = Config.descriptorMarker ∧
          field (bytesOf [data]) 4 1 = h.record.tag ∧ s.pendingUnmarked number = true then
        ((((s.onSearch none).endTask .search).onRing number fun r => { r with mark := some h.record.tag }).reply .done
          (descriptorDetail number)).expoAsk
      else s.searchNext (q.examined ++ [number]) := by
  simp only [State.searchDelivered, hh]
  rfl

/-- Settles O34: the branches of `State.takeAbort` and `State.searchDelivered`, then unbinding, freeing and draining. -/
theorem abortTaken : Obligations.AbortTaken := by
  refine ⟨fun s r x hd => ⟨fun hp => ?_, fun hp hx => ?_⟩, fun s => ⟨?_, ?_, ?_, ?_, ?_⟩⟩
  · rw [State.exec_abortExposure hd, State.takeAbort_unplanned hp]
  · intro detail ended
    rw [State.exec_abortExposure hd, State.takeAbort_found hp hx]
    refine ⟨fun hbad => ?_, fun ha he => ?_, fun ha he hrec hb hh hs => ?_⟩
    · rw [if_neg]
      · rfl
      · rintro ⟨ha, he⟩
        rcases hbad with h | h | h <;> simp_all
    · rw [if_pos ⟨ha, he⟩, State.abortRecord, State.endAborted_eq]
      rfl
    · rw [if_pos ⟨ha, .inl he⟩, State.abortRecord_quietly hrec ha hb hh hs]
      rfl
  · intro r hd hp hx wanted
    rw [State.exec_abortExposure hd, State.takeAbort_search hp hx]
    refine ⟨fun hnone ht => ?_, fun c hc ht ha => ?_⟩
    · have hfind : s.expo.ring.find? RingEntry.wanted = none := by
        simpa [List.find?_eq_none, RingEntry.wanted, wanted] using hnone
      rw [State.search_nothing (s := s.keepInHand 0) hfind ht]
    · rw [State.search_begins (s := s.keepInHand 0) hc ht ha]
      rfl
  · intro unit number data found rest q h hdel hq hhand t shows
    have hshows : shows ↔ found ≠ .uncorrectable ∧ field (bytesOf [data]) 0 4 = Config.descriptorMarker ∧
        field (bytesOf [data]) 4 1 = h.record.tag ∧ t.pendingUnmarked number = true := by
      simp only [shows, field_marker, field_tag, State.pendingUnmarked_iff, t, State.delivered_expo,
        Config.descriptorMarker, ← BitVec.toNat_inj]
      rfl
    have hhand' : t.bus.inHand = some h := (State.delivered_bus ..).symm ▸ hhand
    rw [State.exec_abortSearchReadDelivered hdel hq, State.searchDelivered_eq hhand']
    exact ⟨fun hs => by rw [if_pos (hshows.1 hs)]; rfl, fun hs => by rw [if_neg (hs ∘ hshows.2)]⟩
  · intro bank late
    refine ⟨fun hb => State.unbind_unbound hb late, fun hb => ?_⟩
    rw [State.unbind_bound hb]
    simp only [decide_not]
    rfl
  · intro bank freed
    obtain ⟨hslot, hready, hfree⟩ := s.freeUnapplied_spec bank
    refine ⟨hslot, hready, fun f hf => ?_, fun k hk i f n hj => ?_, fun k hk i f n hj => ?_⟩
    · by_contra h
      exact (hfree f.slot (Bool.eq_true_of_not_eq_false h)).fetches f hf rfl
    · by_contra h
      simpa [hj, isCalReadOf] using (hfree i (Bool.eq_true_of_not_eq_false h)).asks k hk
    · by_contra h
      simpa [hj, isCalReadOf] using (hfree i (Bool.eq_true_of_not_eq_false h)).flying k hk
  · intro bank r hr
    refine ⟨fun ha he hs => State.drainCheck_drains hr ha he (State.slotsOf_isHeld_eq_nil.2 hs), fun h => ?_⟩
    refine State.drainCheck_stays hr (h.imp_right (Or.imp_right ?_))
    rintro ⟨v, hv, hbank, hstate⟩ hnil
    exact hstate (State.slotsOf_isHeld_eq_nil.1 hnil v hv hbank)

end Sys2Proof.Machine

namespace Sys2Proof.Machine

/-! ### The row capture unit: what its operations leave alone

`State.withHeld l`: the held beats are `l`. Whatever opens, fills or closes a row neither reads nor moves the held
beats, which is to say that it commutes with `State.withHeld`. -/

def State.withHeld (l : List HeldBeat) (s : State) : State := s.onCapture fun c => { c with held := l }

/-- A slot becomes FREE with its fetches abandoned, and the fetch unit has not yet turned to another (R58). -/
def State.clearSlot (i : Nat) (s : State) : State :=
  State.discardReads (isCalReadOf i) (State.withdraw (isCalReadOf i)
    ((s.setSlot i Slot.blank).setFetch (s.fetch.filter fun f => !decide (f.slot = i))))

theorem State.freeSlot_eq (s : State) (i : Nat) : s.freeSlot i = (s.clearSlot i).fetchAsk := rfl

section WithHeld

variable (s : State) (l : List HeldBeat)

@[simp] theorem State.withHeld_held : (s.withHeld l).capture.held = l := rfl
@[simp] theorem State.withHeld_withHeld (l' : List HeldBeat) : (s.withHeld l).withHeld l' = s.withHeld l' := rfl
theorem State.withHeld_self : s.withHeld s.capture.held = s := rfl

theorem State.fetchAsk_withHeld : (s.withHeld l).fetchAsk = s.fetchAsk.withHeld l := by
  have hf : (s.withHeld l).fetch = s.fetch := rfl
  have ha : (s.withHeld l).asking isCalRead = s.asking isCalRead := rfl
  simp only [State.fetchAsk, hf, ha]
  split
  · rfl
  · split
    · rfl
    · split <;> rfl

theorem State.freeSlot_withHeld (i : Nat) : (s.withHeld l).freeSlot i = (s.freeSlot i).withHeld l :=
  State.fetchAsk_withHeld (s.clearSlot i) l

theorem State.startFetch_withHeld (i : Nat) (t : TileEntry) (e : SegmentEntry) (f : Frame) :
    (s.withHeld l).startFetch i t e f = (s.startFetch i t e f).withHeld l := by
  unfold State.startFetch
  split <;> rfl

theorem State.startFetches_withHeld (i : Nat) : (s.withHeld l).startFetches i = (s.startFetches i).withHeld l := by
  have hs : (s.withHeld l).slot i = s.slot i := rfl
  have hg (k : Nat) : (s.withHeld l).segment k = s.segment k := rfl
  have ht (k : Nat) : (s.withHeld l).tile k = s.tile k := rfl
  simp only [State.startFetches, hs, hg, ht]
  split
  · rfl
  · split
    · rfl
    · simp only [List.foldl_cons, List.foldl_nil, State.startFetch_withHeld, State.fetchAsk_withHeld]

theorem State.readyTest_withHeld (i : Nat) : (s.withHeld l).readyTest i = (s.readyTest i).withHeld l := by
  have hs : (s.withHeld l).slot i = s.slot i := rfl
  simp only [State.readyTest, hs]
  split <;> rfl

end WithHeld

/-! ### Closing a row (R35, R36, R37) -/

/-- The fault of a closure (R35, R36). -/
def State.closureFault (i : Nat) (kind : Closure) (column : Nat) (s : State) : State :=
  match kind with
  | .complete => s
  | .gapped => s.recordFault (s.slot i).bank .gappedRow (s.slot i).segment (s.slot i).row column
  | .short => s.recordFault (s.slot i).bank .shortRow (s.slot i).segment (s.slot i).row column

theorem State.closeRow_duplicate {s : State} {i : Nat} (h : s.isDuplicate i = true) (kind : Closure) (column : Nat) :
    s.closeRow i kind column =
      (s.recordFault (s.slot i).bank .duplicateRow (s.slot i).segment (s.slot i).row 0).freeSlot i := by
  simp only [State.closeRow, if_pos h]

theorem State.closeRow_kept_row {s : State} {i : Nat} (h : s.isDuplicate i = false) (kind : Closure) (column : Nat) :
    s.closeRow i kind column = ((s.closureFault i kind column).setSlot i
      { s.slot i with state := .closed, closure := some kind }).readyTest i := by
  simp only [State.closeRow, h, if_neg Bool.false_ne_true]
  cases kind <;> rfl

/-- A closed row with a frame PENDING stays CLOSED (R43). -/
theorem State.readyTest_waits {s : State} {i : Nat} (h : (s.slot i).waitsForFrame = true) : s.readyTest i = s := by
  simp [State.readyTest, h]

/-- A closed row with no frame PENDING joins the tail of the ready queue (R43). -/
theorem State.readyTest_joins {s : State} {i : Nat} (hc : (s.slot i).state = .closed)
    (h : (s.slot i).waitsForFrame = false) :
    s.readyTest i = (s.setSlot i { s.slot i with state := .queued }).onCapture fun c =>
      { c with ready := c.ready ++ [i] } := by
  simp [State.readyTest, hc, h]

theorem State.closeRow_withHeld (s : State) (l : List HeldBeat) (i : Nat) (kind : Closure) (column : Nat) :
    (s.withHeld l).closeRow i kind column = (s.closeRow i kind column).withHeld l := by
  have hsame : (s.withHeld l).isDuplicate i = s.isDuplicate i := rfl
  cases hd : s.isDuplicate i with
  | true =>
    rw [State.closeRow_duplicate hd, State.closeRow_duplicate (hsame.trans hd)]
    exact State.freeSlot_withHeld (s.recordFault (s.slot i).bank .duplicateRow (s.slot i).segment (s.slot i).row 0) l i
  | false =>
    rw [State.closeRow_kept_row hd, State.closeRow_kept_row (hsame.trans hd), ← State.readyTest_withHeld]
    cases kind <;> rfl

/-! ### Filling a row (R31, R33 to R35) -/

/-- A beat of a row partly covers a pixel (R33). -/
def State.strike (h : HeldBeat) (s : State) : State :=
  if anyPartly h.beat.enables then s.recordFault h.bank .partialBeat h.segment h.row h.column else s

/-- The row closes if `h` carried its last column, for the slot `v` that holds it now (R35). -/
def State.closeIfLast (i : Nat) (h : HeldBeat) (v : Slot) (s : State) : State :=
  if h.column + 4 = s.rowWidth h.segment then
    match v.lowestMissing (s.rowWidth h.segment) with
    | none => s.closeRow i .complete 0
    | some c => s.closeRow i .gapped c
  else s

theorem State.strike_withHeld (s : State) (l : List HeldBeat) (h : HeldBeat) :
    (s.withHeld l).strike h = (s.strike h).withHeld l := by
  unfold State.strike
  split <;> rfl

@[simp] theorem State.strike_capture (s : State) (h : HeldBeat) : (s.strike h).capture = s.capture := by
  unfold State.strike
  split <;> rfl

theorem State.closeIfLast_withHeld (s : State) (l : List HeldBeat) (i : Nat) (h : HeldBeat) (v : Slot) :
    (s.withHeld l).closeIfLast i h v = (s.closeIfLast i h v).withHeld l := by
  have hw : (s.withHeld l).rowWidth h.segment = s.rowWidth h.segment := rfl
  simp only [State.closeIfLast, hw]
  split
  · split <;> exact State.closeRow_withHeld _ _ _ _ _
  · rfl

/-- The slot with the covered pixels of a beat in it (R33, R34). -/
def State.filled (s : State) (i : Nat) (h : HeldBeat) : Slot :=
  (s.slot i).store (s.imageWidth h.segment) h.column h.beat.enables h.beat.data

/-- Storing a beat into a row: the PARTIAL_BEAT, the pixels, and the closure (R33, R34, R35). -/
theorem State.storeBeat_eq (s : State) (i : Nat) (h : HeldBeat) :
    s.storeBeat i h = ((s.strike h).setSlot i (s.filled i h)).closeIfLast i h (s.filled i h) := by
  have hslot : (s.strike h).slot i = s.slot i := by rw [State.slot, State.strike_capture]; rfl
  rw [State.filled, ← hslot]
  rfl

theorem State.storeBeat_withHeld (s : State) (l : List HeldBeat) (i : Nat) (h : HeldBeat) :
    (s.withHeld l).storeBeat i h = (s.storeBeat i h).withHeld l := by
  rw [State.storeBeat_eq, State.storeBeat_eq, State.strike_withHeld, ← State.closeIfLast_withHeld]
  rfl

theorem State.continueRow_withHeld (s : State) (l : List HeldBeat) (i : Nat) (h : HeldBeat) :
    (s.withHeld l).continueRow i h = (s.continueRow i h).withHeld l := by
  have hs : (s.withHeld l).slot i = s.slot i := rfl
  simp only [State.continueRow, hs]
  split
  · rfl
  · exact State.storeBeat_withHeld _ _ _ _

theorem State.finishWrite_withHeld (s : State) (l : List HeldBeat) (b : BusBeat) :
    (s.withHeld l).finishWrite b = (s.finishWrite b).withHeld l := by
  unfold State.finishWrite
  split <;> rfl

theorem State.completeRaw_withHeld (s : State) (l : List HeldBeat) (h : HeldBeat) :
    (s.withHeld l).completeRaw h = (s.completeRaw h).withHeld l := by
  have hc : (s.withHeld l).captures h.bank = s.captures h.bank := rfl
  simp only [State.completeRaw, hc]
  split
  · split <;> rfl
  · exact State.finishWrite_withHeld _ _ _

/-- What commutes with `State.withHeld` leaves the held beats. -/
theorem State.held_of_withHeld {s : State} {f : State → State} (hf : ∀ l, f (s.withHeld l) = (f s).withHeld l) :
    (f s).capture.held = s.capture.held := by
  have h : f s = (f s).withHeld s.capture.held := hf s.capture.held
  rw [h]
  rfl

@[simp] theorem State.closeRow_held (s : State) (i : Nat) (kind : Closure) (column : Nat) :
    (s.closeRow i kind column).capture.held = s.capture.held :=
  State.held_of_withHeld (f := fun t => t.closeRow i kind column) fun l => s.closeRow_withHeld l i kind column

@[simp] theorem State.startFetches_held (s : State) (i : Nat) : (s.startFetches i).capture.held = s.capture.held :=
  State.held_of_withHeld (f := fun t => t.startFetches i) fun l => s.startFetches_withHeld l i

@[simp] theorem State.storeBeat_held (s : State) (i : Nat) (h : HeldBeat) :
    (s.storeBeat i h).capture.held = s.capture.held :=
  State.held_of_withHeld (f := fun t => t.storeBeat i h) fun l => s.storeBeat_withHeld l i h

@[simp] theorem State.continueRow_held (s : State) (i : Nat) (h : HeldBeat) :
    (s.continueRow i h).capture.held = s.capture.held :=
  State.held_of_withHeld (f := fun t => t.continueRow i h) fun l => s.continueRow_withHeld l i h

@[simp] theorem State.completeRaw_held (s : State) (h : HeldBeat) : (s.completeRaw h).capture.held = s.capture.held :=
  State.held_of_withHeld (f := fun t => t.completeRaw h) fun l => s.completeRaw_withHeld l h

/-! ### Handing slots on (R40) -/

/-- The held beat is one of the row. -/
def HeldBeat.OfRow (bank segment row : Nat) (x : HeldBeat) : Prop := x.bank = bank ∧ x.segment = segment ∧ x.row = row

/-- The row is not the one being collected of its segment. -/
def State.NotCollected (s : State) (bank segment row : Nat) : Prop :=
  ∀ j, s.collecting bank segment = some j → (s.slot j).row ≠ row

/-- A beat that is not of the row opened stays held in its place. -/
theorem State.takeSameRow_other (s : State) {bank segment row : Nat} {x : HeldBeat}
    (hx : ¬x.OfRow bank segment row) (l : List HeldBeat) :
    s.takeSameRow bank segment row (x :: l) =
      (s.withHeld (s.capture.held ++ [x])).takeSameRow bank segment row l := by
  simp only [State.takeSameRow]
  exact if_neg hx

/-- A beat of a row that is not being collected any more stays held in its place (log 41). -/
theorem State.takeSameRow_closed {s : State} {bank segment row : Nat} (h : s.NotCollected bank segment row)
    (x : HeldBeat) (l : List HeldBeat) :
    s.takeSameRow bank segment row (x :: l) =
      (s.withHeld (s.capture.held ++ [x])).takeSameRow bank segment row l := by
  simp only [State.takeSameRow]
  split
  · split
    · next j hj => exact if_neg (h j hj)
    · rfl
  · rfl

/-- A beat of the row being collected is taken into it. -/
theorem State.takeSameRow_taken {s : State} {bank segment row i : Nat} {x : HeldBeat} (hx : x.OfRow bank segment row)
    (hc : s.collecting bank segment = some i) (hr : (s.slot i).row = row) (l : List HeldBeat) :
    s.takeSameRow bank segment row (x :: l) =
      ((s.continueRow i x).completeRaw x).takeSameRow bank segment row l := by
  simp only [State.takeSameRow, hc]
  exact (if_pos hx).trans (if_pos hr)

/-- Beats that are not of the row opened stay held in their places, before those looked at after them. -/
theorem State.takeSameRow_skip {bank segment row : Nat} (l1 l2 : List HeldBeat)
    (h : ∀ x ∈ l1, ¬x.OfRow bank segment row) (s : State) :
    s.takeSameRow bank segment row (l1 ++ l2) =
      (s.withHeld (s.capture.held ++ l1)).takeSameRow bank segment row l2 := by
  induction l1 generalizing s with
  | nil => rw [List.append_nil, List.nil_append, State.withHeld_self]
  | cons x l1 ih =>
    obtain ⟨hx, h⟩ := List.forall_mem_cons.1 h
    rw [List.cons_append, s.takeSameRow_other hx, ih h]
    simp

theorem State.takeSameRow_none {bank segment row : Nat} {l : List HeldBeat} (h : ∀ x ∈ l, ¬x.OfRow bank segment row)
    (s : State) : s.takeSameRow bank segment row l = s.withHeld (s.capture.held ++ l) := by
  have skip := State.takeSameRow_skip l [] h s
  rwa [List.append_nil] at skip

theorem State.takeSameRow_all_closed {bank segment row : Nat} (l : List HeldBeat) {s : State}
    (h : s.NotCollected bank segment row) :
    s.takeSameRow bank segment row l = s.withHeld (s.capture.held ++ l) := by
  induction l generalizing s with
  | nil => rw [List.append_nil, State.withHeld_self]; rfl
  | cons x l ih =>
    rw [State.takeSameRow_closed h, ih (s := s.withHeld (s.capture.held ++ [x])) h]
    simp

/-- No beat joins the held ones but those looked at. -/
theorem State.takeSameRow_held_le (bank segment row : Nat) (l : List HeldBeat) (s : State) :
    (s.takeSameRow bank segment row l).capture.held.length ≤ s.capture.held.length + l.length := by
  induction l generalizing s with
  | nil => exact le_rfl
  | cons x l ih =>
    have keep := ih (s.withHeld (s.capture.held ++ [x]))
    rw [State.withHeld_held, List.length_append, List.length_singleton] at keep
    rw [List.length_cons]
    by_cases hx : x.OfRow bank segment row
    · by_cases hc : s.NotCollected bank segment row
      · rw [State.takeSameRow_closed hc]
        omega
      · simp only [State.NotCollected, not_forall, not_not] at hc
        obtain ⟨i, hi, hr⟩ := hc
        have taken := ih ((s.continueRow i x).completeRaw x)
        rw [State.completeRaw_held, State.continueRow_held] at taken
        rw [State.takeSameRow_taken hx hi hr]
        omega
    · rw [s.takeSameRow_other hx]
      omega

/-- The row that a beat opens, before the held beats of the row follow (R30, R52). -/
def State.opened (s : State) (i : Nat) (h : HeldBeat) (tag : Nat) : State :=
  (((s.setSlot i { Slot.blank with
    state := .collecting, bank := h.bank, tag := tag, segment := h.segment, row := h.row,
    next := h.column }).startFetches i).storeBeat i h).completeRaw h

@[simp] theorem State.opened_held (s : State) (i : Nat) (h : HeldBeat) (tag : Nat) :
    (s.opened i h tag).capture.held = s.capture.held := by
  simp only [State.opened, State.completeRaw_held, State.storeBeat_held, State.startFetches_held]
  rfl

/-- A beat opens a slot with the tag of its exposure, and the held beats of its row follow. -/
theorem State.openRow_eq {s : State} {h : HeldBeat} {r : ExposureRecord} (hr : s.recordOf h.bank = some r) (i : Nat) :
    s.openRow i h = ((s.opened i h r.tag).withHeld []).takeSameRow h.bank h.segment h.row s.capture.held := by
  simp only [State.openRow, hr]
  rw [← s.opened_held i h r.tag]
  rfl

theorem State.openRow_held_le (s : State) (i : Nat) (h : HeldBeat) :
    (s.openRow i h).capture.held.length ≤ s.capture.held.length := by
  unfold State.openRow
  refine (State.takeSameRow_held_le _ _ _ _ _).trans ?_
  simp only [State.onCapture_capture, List.length_nil, Nat.zero_add, State.completeRaw_held, State.storeBeat_held,
    State.startFetches_held]
  exact le_rfl

theorem State.takeHeld_held_le (s : State) (i : Nat) (h : HeldBeat) :
    (s.takeHeld i h).capture.held.length ≤ s.capture.held.length := by
  unfold State.takeHeld
  split
  · exact s.openRow_held_le i h
  · split
    · rw [State.completeRaw_held, State.continueRow_held]
    · next j _ _ =>
      have closed := s.closeRow_held j .short (s.slot j).next
      exact closed ▸ State.openRow_held_le _ i h

/-- With no beat held or no slot FREE, none is handed on. -/
theorem State.handSlots_stays {s : State} (h : s.capture.held = [] ∨ s.lowestFree = none) (n : Nat) :
    s.handSlots n = s := by
  cases n with
  | zero => rfl
  | succ n =>
    simp only [State.handSlots]
    split
    · next hheld hfree => rcases h with h | h <;> simp_all
    · rfl

theorem State.handSlots_takes {s : State} {h : HeldBeat} {rest : List HeldBeat} {i : Nat}
    (hh : s.capture.held = h :: rest) (hi : s.lowestFree = some i) (n : Nat) :
    s.handSlots (n + 1) = ((s.withHeld rest).takeHeld i h).handSlots n := by
  simp only [State.handSlots, hh, hi]
  rfl

/-- As many turns as there are held beats are enough. -/
theorem State.handSlots_enough (n : Nat) : ∀ {s : State} {m : Nat}, s.capture.held.length ≤ n →
    s.capture.held.length ≤ m → s.handSlots n = s.handSlots m := by
  induction n with
  | zero =>
    intro s m hn _
    have none_held : s.capture.held = [] := List.eq_nil_of_length_eq_zero (Nat.le_zero.1 hn)
    rw [State.handSlots_stays (.inl none_held), State.handSlots_stays (.inl none_held)]
  | succ n ih =>
    intro s m hn hm
    by_cases hs : s.capture.held = [] ∨ s.lowestFree = none
    · rw [State.handSlots_stays hs, State.handSlots_stays hs]
    · rw [not_or] at hs
      obtain ⟨x, rest, hh⟩ := List.exists_cons_of_ne_nil hs.1
      obtain ⟨i, hi⟩ := Option.ne_none_iff_exists'.1 hs.2
      have hle := (s.withHeld rest).takeHeld_held_le i x
      rw [State.withHeld_held] at hle
      rw [hh, List.length_cons] at hn hm
      obtain ⟨m, rfl⟩ : ∃ k, m = k + 1 := ⟨m - 1, by omega⟩
      rw [State.handSlots_takes hh hi, State.handSlots_takes hh hi, ih (m := m) (by omega) (by omega)]

/-- The longest-held beat is handed the lowest FREE slot, and so on with the rest (R40). -/
theorem State.handOn_takes {s : State} {h : HeldBeat} {rest : List HeldBeat} {i : Nat}
    (hh : s.capture.held = h :: rest) (hi : s.lowestFree = some i) :
    s.handOn = ((s.withHeld rest).takeHeld i h).handOn := by
  have hle := (s.withHeld rest).takeHeld_held_le i h
  rw [State.handOn, hh, List.length_cons, State.handSlots_takes hh hi]
  exact State.handSlots_enough _ hle le_rfl

end Sys2Proof.Machine

namespace Sys2Proof.Machine

/-! ### Raw beats held for a slot (O15) -/

theorem findIdx?_split {α : Type} {p : α → Bool} {l1 : List α} {v : α} (l2 : List α) (h1 : ∀ y ∈ l1, p y = false)
    (hv : p v = true) : (l1 ++ v :: l2).findIdx? p = some l1.length := by
  rw [List.findIdx?_append, List.findIdx?_eq_none_iff.2 h1, List.findIdx?_cons, hv]
  simp

theorem State.lowestFree_split {s : State} {l1 : List Slot} {v : Slot} {l2 : List Slot}
    (hs : s.capture.slots = l1 ++ v :: l2) (hv : v.state = .free) (h1 : ∀ y ∈ l1, y.state ≠ .free) :
    s.lowestFree = some l1.length := by
  rw [State.lowestFree, hs]
  exact findIdx?_split l2 (fun y hy => decide_eq_false (h1 y hy)) (decide_eq_true hv)

theorem State.lowestFree_none {s : State} (h : ∀ v ∈ s.capture.slots, v.state ≠ .free) : s.lowestFree = none :=
  List.findIdx?_eq_none_iff.2 fun v hv => decide_eq_false (h v hv)

/-- The raw beat as the row capture unit takes it at its arrival (R27, case 4). -/
def State.arrival (s : State) (bank : Nat) (b : BusBeat) (x : RawPlace) : HeldBeat :=
  ⟨b, bank, x.segment, x.row, x.column, s.holdLimit, true⟩

/-- A beat of an included segment's row, with a byte enabled, goes to the row capture unit (R27, case 4). -/
theorem State.rawWrite_captured {s : State} {bank : Nat} {r : ExposureRecord} {b : BusBeat} {x : RawPlace}
    {g : SegmentEntry} (hb : (s.bank bank).bound = true) (hr : s.recordOf bank = some r)
    (hx : rawPlace (b.unit - s.bankBase bank) = x) (he : b.enables ≠ 0#8) (hg : s.segment x.segment = some g)
    (hrow : x.row < g.rows) (hcol : x.column < g.width + g.overscan) (hex : ∀ y ∈ r.excluded, y.1 ≠ g.tile) :
    s.rawWrite bank b = s.captureBeat (s.arrival bank b x) := by
  have included : s.isExcluded r x.segment = false := by
    rw [Bool.eq_false_iff, ne_eq, State.isExcluded_iff hg]
    rintro ⟨why, hwhy⟩
    exact hex _ hwhy rfl
  rw [State.rawWrite_bound hb hr hx, if_neg he, State.isStray_eq_false hg hrow hcol, included,
    if_neg Bool.false_ne_true, if_neg Bool.false_ne_true]
  rfl

/-- No beat is arriving any more. -/
def State.arrived (s : State) : State := s.withHeld (s.capture.held.map fun x => { x with arriving := false })

theorem State.arrived_nothing_held {s : State} (h : s.capture.held = []) : s.arrived = s := by
  rw [State.arrived, h, List.map_nil, ← h, State.withHeld_self]

/-- A beat whose segment has no row collected joins the held beats and takes a FREE slot if there is one (R39). -/
theorem State.captureBeat_new {s : State} {h : HeldBeat} (hc : s.collecting h.bank h.segment = none) :
    s.captureBeat h = (s.withHeld (s.capture.held ++ [h])).handOn.arrived := by
  simp only [State.captureBeat, hc]
  rfl

/-- A beat of another row than the one collected closes that row SHORT first (R32). -/
theorem State.captureBeat_other_row {s : State} {h : HeldBeat} {j : Nat} (hc : s.collecting h.bank h.segment = some j)
    (hr : (s.slot j).row ≠ h.row) :
    s.captureBeat h = ((s.closeShort j).withHeld (s.capture.held ++ [h])).handOn.arrived := by
  have held : (s.closeShort j).capture.held = s.capture.held := s.closeRow_held _ _ _
  rw [← held]
  simp only [State.captureBeat, hc, if_neg hr]
  rfl

/-- A beat of the row collected is taken into it (R31). -/
theorem State.captureBeat_same_row {s : State} {h : HeldBeat} {j : Nat} (hc : s.collecting h.bank h.segment = some j)
    (hr : (s.slot j).row = h.row) : s.captureBeat h = ((s.continueRow j h).completeRaw h).handOn.arrived := by
  simp only [State.captureBeat, hc, if_pos hr]
  rfl

/-- The held beats of a row opened: none of them is of the row, or none finds it still collected. -/
theorem State.openRow_alone {s : State} {h : HeldBeat} {r : ExposureRecord} (hr : s.recordOf h.bank = some r) {i : Nat}
    (hx : (∀ x ∈ s.capture.held, ¬x.OfRow h.bank h.segment h.row) ∨
      (s.opened i h r.tag).NotCollected h.bank h.segment h.row) : s.openRow i h = s.opened i h r.tag := by
  have restored : (s.opened i h r.tag).withHeld s.capture.held = s.opened i h r.tag := by
    rw [← s.opened_held i h r.tag, State.withHeld_self]
  rw [State.openRow_eq hr]
  rcases hx with hx | hx
  · rw [State.takeSameRow_none hx]
    exact restored
  · rw [State.takeSameRow_all_closed _ (s := (s.opened i h r.tag).withHeld []) hx]
    exact restored

/-- The held beats of a row opened: the one that is of the row is taken into it. -/
theorem State.openRow_with_one {s : State} {h : HeldBeat} {r : ExposureRecord} (hr : s.recordOf h.bank = some r)
    {i : Nat} {l1 l2 : List HeldBeat} {x : HeldBeat} (hl : s.capture.held = l1 ++ x :: l2)
    (hx : x.OfRow h.bank h.segment h.row) (hothers : ∀ y ∈ l1 ++ l2, ¬y.OfRow h.bank h.segment h.row)
    (hc : (s.opened i h r.tag).collecting h.bank h.segment = some i) (hrow : ((s.opened i h r.tag).slot i).row = h.row) :
    s.openRow i h = (((s.opened i h r.tag).withHeld (l1 ++ l2)).continueRow i x).completeRaw x := by
  obtain ⟨h1, h2⟩ := List.forall_mem_append.1 hothers
  rw [State.openRow_eq hr, hl, State.takeSameRow_skip l1 _ h1, State.withHeld_withHeld, State.withHeld_held,
    List.nil_append, State.takeSameRow_taken (s := (s.opened i h r.tag).withHeld l1) hx hc hrow, State.takeSameRow_none h2,
    State.completeRaw_held, State.continueRow_held, State.withHeld_held, ← State.completeRaw_withHeld,
    ← State.continueRow_withHeld, State.withHeld_withHeld]

/-- A held beat handed a slot, by whether a row of its segment is collected (R40). -/
theorem State.takeHeld_new {s : State} {h : HeldBeat} (hc : s.collecting h.bank h.segment = none) (i : Nat) :
    s.takeHeld i h = s.openRow i h := by
  simp only [State.takeHeld, hc]

theorem State.takeHeld_same_row {s : State} {h : HeldBeat} {j : Nat} (hc : s.collecting h.bank h.segment = some j)
    (hr : (s.slot j).row = h.row) (i : Nat) : s.takeHeld i h = (s.continueRow j h).completeRaw h := by
  simp only [State.takeHeld, hc, if_pos hr]

theorem State.takeHeld_other_row {s : State} {h : HeldBeat} {j : Nat} (hc : s.collecting h.bank h.segment = some j)
    (hr : (s.slot j).row ≠ h.row) (i : Nat) : s.takeHeld i h = (s.closeShort j).openRow i h := by
  simp only [State.takeHeld, hc, if_neg hr]

/-! ### Faults (R38) and the hold limit (R41) -/

theorem State.recordFault_eq (s : State) (bank : Nat) (kind : FaultKind) (segment row column : Nat) :
    s.recordFault bank kind segment row column = s.onRecord bank fun r => { r with
      counters := { r.counters with faultTotal := min (r.counters.faultTotal + 1) 4294967295 }
      included := r.included.map fun t =>
        if (s.segment segment).map (fun g => g.tile) = some t.tile then { t with faults := min (t.faults + 1) 4294967295 }
        else t
      firstFault := r.firstFault.or (some ⟨kind, segment, row, column⟩) } := by
  unfold State.recordFault
  refine congrArg (fun f => s.onRecord bank f) (funext fun r => ?_)
  simp only [eq_comm (a := some _), satAdd, max32]
  cases r.firstFault <;> rfl

/-- Whether an exposure stores its raw beats is fixed at its activation. -/
theorem State.onRecord_captures (s : State) {bank : Nat} {f : ExposureRecord → ExposureRecord}
    (hb : ∀ r, (f r).bank = r.bank) (hc : ∀ r, (f r).capture = r.capture) (k : Nat) :
    (s.onRecord bank f).captures k = s.captures k := by
  simp only [State.captures, s.recordOf_onRecord hb k]
  cases s.recordOf k with
  | none => rfl
  | some r =>
    simp only [Option.map_some]
    split
    · exact hc r
    · rfl

theorem State.recordFault_captures (s : State) (bank : Nat) (kind : FaultKind) (x y z k : Nat) :
    (s.recordFault bank kind x y z).captures k = s.captures k := by
  rw [State.recordFault_eq]
  refine s.onRecord_captures ?_ ?_ k <;> exact fun _ => rfl

theorem State.captures_eq {s : State} {bank : Nat} {r : ExposureRecord} (hr : s.recordOf bank = some r) :
    s.captures bank = r.capture := by
  simp only [State.captures, hr]

/-- HOLD_LIMIT_EXPIRY of a master with a beat held. -/
theorem State.exec_holdLimitExpiry {s : State} {m : Nat} {h : HeldBeat} (hr : s.inReset = false)
    (hh : s.capture.held.find? (fun x => decide (x.beat.master = m)) = some h) :
    exec (.holdLimitExpiry m) s = .next (s.loseHeld h) := by
  change execHoldLimitExpiry m s = _
  simp only [execHoldLimitExpiry, hr, hh, if_neg Bool.false_ne_true]

/-- Settles O15. -/
theorem holdLimitReached : Obligations.HoldLimitReached := by
  refine ⟨?_, fun s => ⟨?_, ?_, fun i h => ⟨?_, fun j hc => ⟨?_, ?_⟩, fun r hr => ⟨?_, ?_⟩⟩⟩, ?_, ?_⟩
  · intro s m a i n e d bank r x g p ht hroute hb hr hp hx he hg hrow hcol hex hc hfree harr
    have full : (s.withHeld (s.capture.held ++ [s.arrival bank (writeBeat m a i n e d) x])).lowestFree = none :=
      State.lowestFree_none hfree
    have settled : s.capture.held.map (fun x => { x with arriving := false }) = s.capture.held := by
      refine (List.map_congr_left fun y hy => ?_).trans (List.map_id _)
      rw [← harr y hy]
      rfl
    have hlimit : s.holdLimit = p.holdLimit := by simp only [State.holdLimit, hp]
    rw [ht.rawWriteBeat hroute, State.rawWrite_captured hb hr hx he hg hrow hcol hex, State.captureBeat_new hc,
      State.handOn, State.handSlots_stays (.inr full), State.arrived, State.withHeld_held, List.map_append, settled,
      State.withHeld_withHeld, State.arrival, hlimit]
    rfl
  · rintro (h | h)
    · exact State.handSlots_stays (.inl h) _
    · exact State.handSlots_stays (.inr (State.lowestFree_none h)) _
  · intro h rest l1 v l2 hh hs hv h1
    exact State.handOn_takes hh (State.lowestFree_split hs hv h1)
  · exact fun hc => State.takeHeld_new hc i
  · exact fun hrow => State.takeHeld_same_row hc hrow i
  · exact fun hrow => State.takeHeld_other_row hc hrow i
  · exact fun hx => State.openRow_alone hr hx
  · exact fun l1 x l2 hl hx hothers hc hrow => State.openRow_with_one hr hl hx hothers hc hrow
  · intro s m h r hr hh hrec others lost
    have master : h.beat.master = m := by simpa using List.find?_some hh
    have captures : lost.captures h.bank = r.capture :=
      (State.recordFault_captures _ _ _ _ _ _ _).trans (State.captures_eq hrec)
    rw [State.exec_holdLimitExpiry hr hh, State.loseHeld, master]
    change Host.Outcome.next (lost.completeRaw { h with arriving := false }).settle = _
    rw [State.completeRaw, captures]
    rfl
  · exact State.recordFault_eq

end Sys2Proof.Machine

namespace Sys2Proof.Machine

/-! ### A row opened, filled and closed by raw write beats (O14) -/

/-- An update that leaves the fetch unit's books alone can follow or precede its next ask. -/
theorem State.fetchAsk_comm {s : State} (f : State → State) (hfetch : (f s).fetch = s.fetch)
    (hask : (f s).asking isCalRead = s.asking isCalRead)
    (hf : ∀ l a, ((f s).setFetch l).ask a = f ((s.setFetch l).ask a)) : (f s).fetchAsk = f s.fetchAsk := by
  simp only [State.fetchAsk, hfetch, hask]
  split
  · rfl
  · split
    · rfl
    · split
      · exact hf _ _
      · rfl

theorem State.fetchAsk_setSlot (s : State) (i : Nat) (v : Slot) :
    (s.setSlot i v).fetchAsk = s.fetchAsk.setSlot i v :=
  State.fetchAsk_comm (State.setSlot i v) rfl rfl fun _ _ => rfl

theorem State.fetchAsk_strike (s : State) (h : HeldBeat) : (s.strike h).fetchAsk = s.fetchAsk.strike h := by
  unfold State.strike
  split
  · exact State.fetchAsk_comm (State.recordFault h.bank .partialBeat h.segment h.row h.column) rfl rfl fun _ _ => rfl
  · rfl

/-! #### The fetches of a row opened (R52) -/

/-- A frame at the opening of its slot. -/
def FrameHold.atOpening (base : Nat) : FrameHold := ⟨some (if base = 0 then .absent else .pending), []⟩

/-- The fetch that a present frame of a row asks for. -/
def openingFetch (i : Nat) (t : TileEntry) (e : SegmentEntry) (row : Nat) (f : Frame) : List Fetch :=
  if t.frameBase f = 0 then [] else [⟨i, f, frameRowAddr t f e.index row, e.width / 4, 0, []⟩]

theorem State.startFetch_eq (s : State) (i : Nat) (t : TileEntry) (e : SegmentEntry) (f : Frame) :
    s.startFetch i t e f = (s.setSlot i ((s.slot i).setFrame f (.atOpening (t.frameBase f)))).setFetch
      (s.fetch ++ openingFetch i t e (s.slot i).row f) := by
  unfold State.startFetch openingFetch FrameHold.atOpening
  split
  · rw [List.append_nil]
    rfl
  · rfl

/-- Setting a slot twice sets it once. -/
theorem State.setSlot_setSlot (s : State) (i : Nat) (v w : Slot) : (s.setSlot i v).setSlot i w = s.setSlot i w := by
  simp only [State.setSlot, State.onCapture, List.set_set]

/-- A slot with its three frames at their opening. -/
def Slot.withFrames (v : Slot) (t : TileEntry) : Slot :=
  { v with zero := .atOpening t.zeroBase, dark := .atOpening t.darkBase, flat := .atOpening t.flatBase }

/-- The fetches of a slot just set, in the order zero, dark, flat. -/
theorem State.startFetches_eq {s : State} {i : Nat} {v : Slot} {g : SegmentEntry} {t : TileEntry}
    (hi : i < s.capture.slots.length) (hg : s.segment v.segment = some g) (ht : s.tile g.tile = some t) :
    (s.setSlot i v).startFetches i = ((s.setSlot i (v.withFrames t)).setFetch (s.fetch ++ openingFetch i t g v.row .zero ++
      openingFetch i t g v.row .dark ++ openingFetch i t g v.row .flat)).fetchAsk := by
  have hslot (w : Slot) : (s.setSlot i w).slot i = w := State.slot_setSlot_same hi w
  have start (w : Slot) (l : List Fetch) (f : Frame) : ((s.setSlot i w).setFetch l).startFetch i t g f =
      (s.setSlot i (w.setFrame f (.atOpening (t.frameBase f)))).setFetch (l ++ openingFetch i t g w.row f) := by
    have hw : ((s.setSlot i w).setFetch l).slot i = w := hslot w
    rw [State.startFetch_eq, hw]
    change ((s.setSlot i w).setSlot i (w.setFrame f (.atOpening (t.frameBase f)))).setFetch _ = _
    rw [State.setSlot_setSlot]
    rfl
  have first : s.setSlot i v = (s.setSlot i v).setFetch s.fetch := rfl
  have hg' : (s.setSlot i v).segment v.segment = some g := hg
  have ht' : (s.setSlot i v).tile g.tile = some t := ht
  simp only [State.startFetches, hslot, hg', ht', List.foldl_cons, List.foldl_nil]
  rw [first, start, start, start]
  rfl

/-! #### The columns of a row -/

theorem Slot.lowestMissing_none {v : Slot} {n : Nat} (h : ∀ c < n, ∃ p ∈ v.pixels, p.1 = c) :
    v.lowestMissing n = none := by
  simpa [Slot.lowestMissing, List.find?_eq_none] using h

theorem Slot.lowestMissing_some {v : Slot} {n c : Nat} (hc : c < n) (hm : ∀ p ∈ v.pixels, p.1 ≠ c)
    (hl : ∀ c' < c, ∃ p ∈ v.pixels, p.1 = c') : v.lowestMissing n = some c := by
  rw [Slot.lowestMissing, List.find?_range_eq_some]
  refine ⟨?_, List.mem_range.2 hc, fun c' hlt => ?_⟩
  · simpa using fun a b hab => hm (a, b) hab
  · simpa using hl c' hlt

theorem State.rowWidth_eq {s : State} {i : Nat} {g : SegmentEntry} (hg : s.segment i = some g) :
    s.rowWidth i = g.width + g.overscan := by
  simp only [State.rowWidth, hg]

/-- What keeps the plan in force keeps its segments and their widths. -/
theorem State.segment_congr {s t : State} (h : t.kept = s.kept) (i : Nat) : t.segment i = s.segment i := by
  have hplan : t.loader.plan = s.loader.plan := congrArg Kept.plan h
  simp only [State.segment, hplan]

theorem State.imageWidth_congr {s t : State} (h : t.kept = s.kept) (i : Nat) : t.imageWidth i = s.imageWidth i := by
  simp only [State.imageWidth, State.segment_congr h]

theorem State.rowWidth_congr {s t : State} (h : t.kept = s.kept) (i : Nat) : t.rowWidth i = s.rowWidth i := by
  simp only [State.rowWidth, State.segment_congr h]

section CloseIfLast

variable {s : State} {i w : Nat} {h : HeldBeat} {v : Slot}

/-- A beat without the last column leaves the row open. -/
theorem State.closeIfLast_open (hw : s.rowWidth h.segment = w) (hc : h.column + 4 ≠ w) : s.closeIfLast i h v = s := by
  rw [State.closeIfLast, hw, if_neg hc]

/-- With every column received the row closes COMPLETE (R35). -/
theorem State.closeIfLast_complete (hw : s.rowWidth h.segment = w) (hc : h.column + 4 = w)
    (hp : ∀ c < w, ∃ p ∈ v.pixels, p.1 = c) : s.closeIfLast i h v = s.closeRow i .complete 0 := by
  rw [State.closeIfLast, hw, if_pos hc, Slot.lowestMissing_none hp]

/-- With a column missing it closes GAPPED at the lowest one (R35). -/
theorem State.closeIfLast_gapped (hw : s.rowWidth h.segment = w) (hc : h.column + 4 = w) {c : Nat} (hlt : c < w)
    (hm : ∀ p ∈ v.pixels, p.1 ≠ c) (hl : ∀ c' < c, ∃ p ∈ v.pixels, p.1 = c') :
    s.closeIfLast i h v = s.closeRow i .gapped c := by
  rw [State.closeIfLast, hw, if_pos hc, Slot.lowestMissing_some hlt hm hl]

end CloseIfLast

/-! #### Whether an exposure stores its raw beats -/

@[simp] theorem State.fetchAsk_expo (s : State) : s.fetchAsk.expo = s.expo := by
  unfold State.fetchAsk
  split
  · rfl
  · split
    · rfl
    · split <;> rfl

@[simp] theorem State.freeSlot_expo (s : State) (i : Nat) : (s.freeSlot i).expo = s.expo :=
  State.fetchAsk_expo _

@[simp] theorem State.readyTest_expo (s : State) (i : Nat) : (s.readyTest i).expo = s.expo := by
  simp only [State.readyTest]
  split <;> rfl

/-- The records alone say which exposures store their raw beats. -/
theorem State.captures_congr {s t : State} (h : t.expo = s.expo) (k : Nat) : t.captures k = s.captures k := by
  simp only [State.captures, State.recordOf, h]

theorem State.closureFault_captures (s : State) (i : Nat) (kind : Closure) (column k : Nat) :
    (s.closureFault i kind column).captures k = s.captures k := by
  cases kind with
  | complete => rfl
  | gapped => exact State.recordFault_captures _ _ _ _ _ _ _
  | short => exact State.recordFault_captures _ _ _ _ _ _ _

theorem State.closeRow_captures (s : State) (i : Nat) (kind : Closure) (column k : Nat) :
    (s.closeRow i kind column).captures k = s.captures k := by
  cases hd : s.isDuplicate i with
  | true =>
    rw [State.closeRow_duplicate hd, State.captures_congr (State.freeSlot_expo _ _), State.recordFault_captures]
  | false =>
    rw [State.closeRow_kept_row hd, State.captures_congr (State.readyTest_expo _ _)]
    exact s.closureFault_captures i kind column k

theorem State.strike_captures (s : State) (h : HeldBeat) (k : Nat) : (s.strike h).captures k = s.captures k := by
  unfold State.strike
  split
  · exact State.recordFault_captures _ _ _ _ _ _ _
  · rfl

/-- A raw beat taken at its arrival completes when its store is granted, or at once (R28, R169). -/
theorem State.completeRaw_arriving {s : State} {h : HeldBeat} {c : Bool} (hc : s.captures h.bank = c)
    (ha : h.arriving = true) (hp : h.beat.pair = false) :
    s.completeRaw h = if c then s.askStore false h.beat else s.respond h.beat .done := by
  rw [State.completeRaw, hc, ha, if_pos rfl, s.finishWrite_unpaired hp]

/-! #### A row opened at its first beat -/

/-- With a slot FREE and no beat held, a beat whose segment has no row collected opens the lowest one (R30, R39). -/
theorem State.captureBeat_opens {s : State} {h : HeldBeat} {r : ExposureRecord} {i : Nat}
    (hc : s.collecting h.bank h.segment = none) (hheld : s.capture.held = []) (hi : s.lowestFree = some i)
    (hr : s.recordOf h.bank = some r) : s.captureBeat h = s.opened i h r.tag := by
  have nothing : s.withHeld [] = s := by rw [← hheld, State.withHeld_self]
  have opened_nothing : (s.opened i h r.tag).capture.held = [] := (s.opened_held i h r.tag).trans hheld
  have takes : (s.withHeld [h]).handOn = (s.takeHeld i h).handOn := by
    rw [State.handOn_takes (s := s.withHeld [h]) (h := h) (rest := []) rfl hi, State.withHeld_withHeld, nothing]
  rw [State.captureBeat_new hc, hheld, List.nil_append, takes, State.takeHeld_new hc,
    State.openRow_alone hr (.inl (by simp [hheld])), State.handOn_nothing_held opened_nothing,
    State.arrived_nothing_held opened_nothing]

/-- The slot that a beat opens, with the beat's pixels in it (R30, R33, R34). -/
def HeldBeat.openedSlot (h : HeldBeat) (tag width : Nat) (t : TileEntry) : Slot :=
  let got := coveredPixels h.column h.beat.enables h.beat.data
  let osc := got.filter fun p => decide (width ≤ p.1)
  { state := .collecting, bank := h.bank, tag := tag, segment := h.segment, row := h.row, next := h.column + 4,
    pixels := got, oscSum := (osc.map fun p => p.2.toNat).sum, oscCount := osc.length, closure := none,
    zero := .atOpening t.zeroBase, dark := .atOpening t.darkBase, flat := .atOpening t.flatBase }

/-- The part with a beat's row opened and its pixels stored: the struck part, its slot and its fetches. -/
def State.openedWith (s : State) (i : Nat) (h : HeldBeat) (v : Slot) (t : TileEntry) (g : SegmentEntry) : State :=
  (((s.strike h).setSlot i v).setFetch (s.fetch ++ openingFetch i t g h.row .zero ++ openingFetch i t g h.row .dark ++
    openingFetch i t g h.row .flat)).fetchAsk

/-- Opening a row stores the beat that opens it, and closes the row if the beat carries its last column. -/
theorem State.opened_eq {s : State} {i : Nat} {h : HeldBeat} {g : SegmentEntry} {t : TileEntry} (tag : Nat)
    (hi : i < s.capture.slots.length) (hg : s.segment h.segment = some g) (ht : s.tile g.tile = some t) :
    s.opened i h tag = ((s.openedWith i h (h.openedSlot tag g.width t) t g).closeIfLast i h
      (h.openedSlot tag g.width t)).completeRaw h := by
  let v : Slot := { Slot.blank with
    state := .collecting, bank := h.bank, tag := tag, segment := h.segment, row := h.row, next := h.column }
  let fetches := s.fetch ++ openingFetch i t g h.row .zero ++ openingFetch i t g h.row .dark ++
    openingFetch i t g h.row .flat
  have started : (s.setSlot i v).startFetches i = ((s.setSlot i (v.withFrames t)).setFetch fetches).fetchAsk :=
    State.startFetches_eq (v := v) hi hg ht
  have hslot : (((s.setSlot i (v.withFrames t)).setFetch fetches).fetchAsk).slot i = v.withFrames t := by
    rw [State.slot, State.fetchAsk_capture]
    exact State.slot_setSlot_same hi _
  have hwidth : (((s.setSlot i (v.withFrames t)).setFetch fetches).fetchAsk).imageWidth h.segment = g.width :=
    (State.imageWidth_congr (State.fetchAsk_kept _) _).trans (State.imageWidth_eq hg)
  have hfilled : (((s.setSlot i (v.withFrames t)).setFetch fetches).fetchAsk).filled i h =
      h.openedSlot tag g.width t := by
    rw [State.filled, hslot, hwidth]
    simp [Slot.store, Slot.withFrames, HeldBeat.openedSlot, v, Slot.blank]
  have placed : ((((s.setSlot i (v.withFrames t)).setFetch fetches).fetchAsk).strike h).setSlot i
      (h.openedSlot tag g.width t) = s.openedWith i h (h.openedSlot tag g.width t) t g := by
    rw [← State.fetchAsk_strike, ← State.fetchAsk_setSlot]
    have struck : ((s.setSlot i (v.withFrames t)).setFetch fetches).strike h =
        ((s.strike h).setSlot i (v.withFrames t)).setFetch fetches := by
      unfold State.strike
      split <;> rfl
    rw [struck]
    change ((((s.strike h).setSlot i (v.withFrames t)).setSlot i (h.openedSlot tag g.width t)).setFetch fetches).fetchAsk = _
    rw [State.setSlot_setSlot]
    rfl
  rw [State.opened, started, State.storeBeat_eq, hfilled, placed]

theorem State.closeIfLast_captures (s : State) (i : Nat) (h : HeldBeat) (v : Slot) (k : Nat) :
    (s.closeIfLast i h v).captures k = s.captures k := by
  unfold State.closeIfLast
  split
  · split <;> exact State.closeRow_captures _ _ _ _ _
  · rfl

theorem State.openedWith_captures (s : State) (i : Nat) (h : HeldBeat) (v : Slot) (t : TileEntry) (g : SegmentEntry)
    (k : Nat) : (s.openedWith i h v t g).captures k = s.captures k :=
  (State.captures_congr (State.fetchAsk_expo _) k).trans (s.strike_captures h k)

/-! #### A row filled -/

/-- With no beat held, a beat of the row collected is taken into it (R31). -/
theorem State.captureBeat_fills {s : State} {h : HeldBeat} {j : Nat} (hc : s.collecting h.bank h.segment = some j)
    (hr : (s.slot j).row = h.row) (hheld : s.capture.held = []) :
    s.captureBeat h = (s.continueRow j h).completeRaw h := by
  have nothing : ((s.continueRow j h).completeRaw h).capture.held = [] := by
    rw [State.completeRaw_held, State.continueRow_held, hheld]
  rw [State.captureBeat_same_row hc hr, State.handOn_nothing_held nothing, State.arrived_nothing_held nothing]

/-- A backward beat is discarded with its fault (R31). -/
theorem State.continueRow_backward {s : State} {j : Nat} {h : HeldBeat} (hn : h.column < (s.slot j).next) :
    s.continueRow j h = s.recordFault h.bank .outOfOrder h.segment h.row h.column := by
  rw [State.continueRow, if_pos hn]

/-- Any other beat is stored (R31). -/
theorem State.continueRow_stores {s : State} {j : Nat} {h : HeldBeat} (hn : (s.slot j).next ≤ h.column) :
    s.continueRow j h = ((s.strike h).setSlot j (s.filled j h)).closeIfLast j h (s.filled j h) := by
  rw [State.continueRow, if_neg (not_lt.2 hn), State.storeBeat_eq]

/-- A slot set within the table. -/
theorem State.setSlot_split {s : State} {l1 : List Slot} {v : Slot} {l2 : List Slot}
    (hs : s.capture.slots = l1 ++ v :: l2) (w : Slot) :
    s.setSlot l1.length w = s.onCapture fun c => { c with slots := l1 ++ w :: l2 } := by
  simp [State.setSlot, State.onCapture, hs]

/-- A raw write beat taken at its arrival for the row capture unit (R27, case 4). -/
theorem State.Takes.captured {s : State} {m : Nat} {a : BitVec 36} {i n : Nat} {e : BitVec 8} {d : Word} {bank : Nat}
    {r : ExposureRecord} {x : RawPlace} {g : SegmentEntry} (ht : s.Takes (writeBeat m a i n e d))
    (hroute : s.route (writeBeat m a i n e d).unit = .raw bank) (hb : (s.bank bank).bound = true)
    (hr : s.recordOf bank = some r) (hx : rawPlace ((writeBeat m a i n e d).unit - s.bankBase bank) = x) (he : e ≠ 0#8)
    (hg : s.segment x.segment = some g) (hrow : x.row < g.rows) (hcol : x.column < g.width + g.overscan)
    (hex : ∀ y ∈ r.excluded, y.1 ≠ g.tile) :
    exec (.rawWriteBeat m a i n e d) s =
      .next (s.captureBeat (s.arrival bank (writeBeat m a i n e d) x)).settle := by
  rw [ht.rawWriteBeat hroute, State.rawWrite_captured hb hr hx he hg hrow hcol hex]

end Sys2Proof.Machine

namespace Sys2Proof.Machine

/-! #### A beat of another row (R32)

`State.RowFrame s t`: what closing a row leaves alone, so that the beat that closes it goes on in `t` as in `s`. -/

structure State.RowFrame (s t : State) : Prop where
  kept : t.kept = s.kept
  bus : t.bus = s.bus
  banks : t.capture.banks = s.capture.banks
  held : t.capture.held = s.capture.held
  waits : ∀ m, (t.port.asks.any fun a => a.waitsFor m) = s.port.asks.any fun a => a.waitsFor m
  records : ∀ k r, s.recordOf k = some r → ∃ r', t.recordOf k = some r' ∧ r'.excluded = r.excluded

namespace State.RowFrame

variable {s t u : State}

theorem refl (s : State) : s.RowFrame s := ⟨rfl, rfl, rfl, rfl, fun _ => rfl, fun _ r h => ⟨r, h, rfl⟩⟩

theorem trans (h : s.RowFrame t) (h' : t.RowFrame u) : s.RowFrame u where
  kept := h'.kept.trans h.kept
  bus := h'.bus.trans h.bus
  banks := h'.banks.trans h.banks
  held := h'.held.trans h.held
  waits m := (h'.waits m).trans (h.waits m)
  records k r hr := by
    obtain ⟨r', hr', he⟩ := h.records k r hr
    obtain ⟨r'', hr'', he'⟩ := h'.records k r' hr'
    exact ⟨r'', hr'', he'.trans he⟩

theorem setSlot (s : State) (i : Nat) (v : Slot) : s.RowFrame (s.setSlot i v) := { refl s with }

theorem onRecord (s : State) {bank : Nat} {f : ExposureRecord → ExposureRecord} (hb : ∀ r, (f r).bank = r.bank)
    (he : ∀ r, (f r).excluded = r.excluded) : s.RowFrame (s.onRecord bank f) :=
  { refl s with
    records := fun k r hr => by
      rw [State.recordOf_onRecord _ hb, hr]
      refine ⟨_, rfl, ?_⟩
      dsimp only
      split
      · exact he r
      · rfl }

theorem recordFault (s : State) (bank : Nat) (kind : FaultKind) (x y z : Nat) :
    s.RowFrame (s.recordFault bank kind x y z) := by
  rw [State.recordFault_eq]
  refine onRecord s ?_ ?_ <;> exact fun _ => rfl

theorem fetchAsk (s : State) : s.RowFrame s.fetchAsk := by
  unfold State.fetchAsk
  split
  · exact refl s
  · split
    · exact refl s
    · split
      · exact { refl s with
          waits := fun m => by simp [State.ask, State.onPort, State.setFetch, Ask.waitsFor] }
      · exact refl s

/-- No beat waits for a read of the fetch unit, so that none lets go when such reads are withdrawn. -/
theorem waitsFor_calRead {a : Ask} {i : Nat} (h : isCalReadOf i a.job = true) (m : Nat) : a.waitsFor m = false := by
  unfold Ask.waitsFor
  split <;> simp_all [isCalReadOf]

theorem clearSlot (s : State) (i : Nat) : s.RowFrame (s.clearSlot i) :=
  { refl s with
    waits := fun m => by
      change ((s.port.asks.filter fun a => !isCalReadOf i a.job).any fun a => a.waitsFor m) = _
      rw [List.any_filter]
      congr 1
      funext a
      cases ha : isCalReadOf i a.job with
      | false => simp
      | true => simp [waitsFor_calRead ha] }

theorem freeSlot (s : State) (i : Nat) : s.RowFrame (s.freeSlot i) := (clearSlot s i).trans (fetchAsk _)

theorem readyTest (s : State) (i : Nat) : s.RowFrame (s.readyTest i) := by
  simp only [State.readyTest]
  split
  · exact { setSlot s i { s.slot i with state := .queued } with }
  · exact refl s

theorem closureFault (s : State) (i : Nat) (kind : Closure) (column : Nat) :
    s.RowFrame (s.closureFault i kind column) := by
  cases kind with
  | complete => exact refl s
  | gapped => exact recordFault _ _ _ _ _ _
  | short => exact recordFault _ _ _ _ _ _

theorem closeRow (s : State) (i : Nat) (kind : Closure) (column : Nat) : s.RowFrame (s.closeRow i kind column) := by
  cases hd : s.isDuplicate i with
  | true =>
    rw [State.closeRow_duplicate hd]
    exact (recordFault _ _ _ _ _ _).trans (freeSlot _ i)
  | false =>
    rw [State.closeRow_kept_row hd]
    exact ((closureFault s i kind column).trans (setSlot _ i _)).trans (readyTest _ i)

/-- A beat that is taken at its arrival is taken so. -/
theorem takes (h : s.RowFrame t) {b : BusBeat} (hb : s.Takes b) : t.Takes b := by
  obtain ⟨formed, running, free, first, unlocked⟩ := hb
  have same_held : t.masterHeld b.master = s.masterHeld b.master := by
    simp only [State.masterHeld, h.held, h.bus, h.waits]
  exact ⟨formed, (congrArg Kept.inReset h.kept).trans running, same_held.trans free, h.bus ▸ first, h.bus ▸ unlocked⟩

/-- It is routed as before. -/
theorem route (h : s.RowFrame t) (v : Nat) : t.route v = s.route v := by
  have straps : t.straps = s.straps := congrArg Kept.straps h.kept
  have part : t.part = s.part := congrArg Kept.part h.kept
  have plan : t.loader.plan = s.loader.plan := congrArg Kept.plan h.kept
  unfold State.route State.fitted State.inPlanArea State.planBase
  rw [straps, part, plan]

/-- It goes to the row capture unit as before. -/
theorem captured (h : s.RowFrame t) {m : Nat} {a : BitVec 36} {i n : Nat} {e : BitVec 8} {d : Word} {bank : Nat}
    {r : ExposureRecord} {x : RawPlace} {g : SegmentEntry} (ht : s.Takes (writeBeat m a i n e d))
    (hroute : s.route (writeBeat m a i n e d).unit = .raw bank) (hb : (s.bank bank).bound = true)
    (hr : s.recordOf bank = some r) (hx : rawPlace ((writeBeat m a i n e d).unit - s.bankBase bank) = x) (he : e ≠ 0#8)
    (hg : s.segment x.segment = some g) (hrow : x.row < g.rows) (hcol : x.column < g.width + g.overscan)
    (hex : ∀ y ∈ r.excluded, y.1 ≠ g.tile) :
    exec (.rawWriteBeat m a i n e d) t =
      .next (t.captureBeat (s.arrival bank (writeBeat m a i n e d) x)).settle := by
  obtain ⟨r', hr', hexcluded⟩ := h.records bank r hr
  have plan : t.loader.plan = s.loader.plan := congrArg Kept.plan h.kept
  have same_bank : t.bank bank = s.bank bank := by simp only [State.bank, h.banks]
  have same_base : t.bankBase bank = s.bankBase bank := by simp only [State.bankBase, plan]
  have same_arrival (b : BusBeat) : t.arrival bank b x = s.arrival bank b x := by
    simp only [State.arrival, State.holdLimit, plan]
  rw [← same_arrival]
  exact (h.takes ht).captured ((h.route _).trans hroute) (same_bank ▸ hb) hr' (same_base ▸ hx) he
    ((State.segment_congr h.kept _).trans hg) hrow hcol (hexcluded ▸ hex)

end State.RowFrame

theorem State.readyTest_slots (s : State) (i : Nat) : (s.readyTest i).capture.slots = s.capture.slots ∨
    ∃ w : Slot, w.state = .queued ∧ (s.readyTest i).capture.slots = s.capture.slots.set i w := by
  simp only [State.readyTest]
  split
  · exact .inr ⟨{ s.slot i with state := .queued }, rfl, rfl⟩
  · exact .inl rfl

/-- A closed row's slot is no longer COLLECTING, and no other slot changes. -/
theorem State.closeRow_slots (s : State) (i : Nat) (kind : Closure) (column : Nat) :
    ∃ v : Slot, v.state ≠ .collecting ∧ (s.closeRow i kind column).capture.slots = s.capture.slots.set i v := by
  cases hd : s.isDuplicate i with
  | true =>
    refine ⟨Slot.blank, by decide, ?_⟩
    rw [State.closeRow_duplicate hd, State.freeSlot_capture]
    rfl
  | false =>
    let v : Slot := { s.slot i with state := .closed, closure := some kind }
    have placed : ((s.closureFault i kind column).setSlot i v).capture.slots = s.capture.slots.set i v := by
      cases kind <;> rfl
    rw [State.closeRow_kept_row hd]
    rcases State.readyTest_slots ((s.closureFault i kind column).setSlot i v) i with h | ⟨w, hw, h⟩
    · exact ⟨v, SlotState.noConfusion, h.trans placed⟩
    · refine ⟨w, by simp [hw], h.trans ?_⟩
      rw [placed, List.set_set]

/-- Once the one row of a segment that is being collected has closed, none is. -/
theorem State.collecting_closed {s t : State} {j bank segment : Nat} {v : Slot} (hv : v.state ≠ .collecting)
    (ht : t.capture.slots = s.capture.slots.set j v)
    (hothers : ∀ k, k ≠ j → (s.slot k).state = .collecting → (s.slot k).bank = bank → (s.slot k).segment ≠ segment) :
    t.collecting bank segment = none := by
  rw [State.collecting, ht, List.findIdx?_eq_none_iff]
  intro w hw
  obtain ⟨k, hk, rfl⟩ := List.mem_iff_getElem.1 hw
  rw [List.getElem_set]
  split
  · simp [hv]
  · next hjk =>
    have hk' : k < s.capture.slots.length := by simpa using hk
    have others := hothers k (Ne.symm hjk)
    rw [State.slot, List.getD_eq_getElem _ _ hk'] at others
    simpa using others

end Sys2Proof.Machine

namespace Sys2Proof.Machine

/-! #### The statement -/

theorem SlotState.holdsRow_iff {x : SlotState} : x.holdsRow = true ↔ x = .closed ∨ x = .queued ∨ x = .applying := by
  cases x <;> simp [SlotState.holdsRow]

/-- The duplicate test, by the row map and by the other slots of the exposure (R37). -/
theorem State.isDuplicate_iff (s : State) (i : Nat) : s.isDuplicate i = true ↔
    (∃ r, s.recordOf (s.slot i).bank = some r ∧ ((s.slot i).segment, (s.slot i).row) ∈ r.rowMap) ∨
      ∃ j, j ≠ i ∧ j < s.capture.slots.length ∧ (s.slot j).bank = (s.slot i).bank ∧
        (s.slot j).segment = (s.slot i).segment ∧ (s.slot j).row = (s.slot i).row ∧
        ((s.slot j).state = .closed ∨ (s.slot j).state = .queued ∨ (s.slot j).state = .applying) := by
  rw [State.isDuplicate, Bool.or_eq_true]
  refine or_congr ?_ ?_
  · cases s.recordOf (s.slot i).bank <;> simp
  · simp only [List.any_eq_true, List.mem_range, Bool.and_eq_true, decide_eq_true_eq, SlotState.holdsRow_iff]
    refine exists_congr fun j => ?_
    tauto

theorem Slot.waitsForFrame_iff {v : Slot} :
    v.waitsForFrame = true ↔ ∃ h ∈ [v.zero, v.dark, v.flat], h.status = some .pending := by
  simp only [Slot.waitsForFrame, List.any_eq_true, decide_eq_true_eq]

/-- A closing row that is no duplicate and waits for a frame is CLOSED (R35, R36). -/
theorem State.closeRow_waiting {s : State} {i : Nat} (hi : i < s.capture.slots.length) (hd : s.isDuplicate i = false)
    (hw : (s.slot i).waitsForFrame = true) (kind : Closure) (column : Nat) :
    s.closeRow i kind column =
      (s.closureFault i kind column).setSlot i { s.slot i with state := .closed, closure := some kind } := by
  have hlen : i < (s.closureFault i kind column).capture.slots.length := by cases kind <;> exact hi
  rw [State.closeRow_kept_row hd, State.readyTest_waits]
  rw [State.slot_setSlot_same hlen]
  exact hw

/-- One that waits for none joins the tail of the ready queue (R35, R36, R43). -/
theorem State.closeRow_ready {s : State} {i : Nat} (hi : i < s.capture.slots.length) (hd : s.isDuplicate i = false)
    (hw : (s.slot i).waitsForFrame = false) (kind : Closure) (column : Nat) :
    s.closeRow i kind column = ((s.closureFault i kind column).setSlot i
      { s.slot i with state := .queued, closure := some kind }).onCapture fun c => { c with ready := c.ready ++ [i] } := by
  have hlen : i < (s.closureFault i kind column).capture.slots.length := by cases kind <;> exact hi
  have hslot := State.slot_setSlot_same hlen { s.slot i with state := .closed, closure := some kind }
  rw [State.closeRow_kept_row hd, State.readyTest_joins (by rw [hslot]) (by rw [hslot]; exact hw), hslot,
    State.setSlot_setSlot]

theorem State.strike_kept (s : State) (h : HeldBeat) : (s.strike h).kept = s.kept := by
  unfold State.strike
  split <;> rfl

theorem State.openedWith_kept (s : State) (i : Nat) (h : HeldBeat) (v : Slot) (t : TileEntry) (g : SegmentEntry) :
    (s.openedWith i h v t g).kept = s.kept :=
  (State.fetchAsk_kept _).trans (s.strike_kept h)

/-- Settles O14: a row opened (`State.opened_eq`), filled (`State.continueRow_stores`) and closed (`State.closeRow_slots`
and its companions). -/
theorem rawRows : Obligations.RawRows := by
  refine ⟨?_, ?_, ?_⟩
  · intro s m a i n e d bank r x g t l1 v l2 ht hheld hroute hb hr hx he hg htile hrow hcol hex hc hslots hv h1
      b w finish struck got osc frame fetches slot taken
    let h : HeldBeat := s.arrival bank b x
    have hi : l1.length < s.capture.slots.length := by simp [hslots]
    have htaken : s.openedWith l1.length h slot t g = taken := by
      have hstruck : (s.strike h).capture.slots = l1 ++ v :: l2 := (congrArg Capture.slots (s.strike_capture h)).trans hslots
      rw [State.openedWith, State.setSlot_split hstruck]
      rfl
    have hfinish (u : State) (hu : u.captures bank = s.captures bank) : u.completeRaw h = finish u :=
      State.completeRaw_arriving (hu.trans (State.captures_eq hr)) rfl rfl
    have hexec : exec (.rawWriteBeat m a i n e d) s = .next (finish (taken.closeIfLast l1.length h slot)).settle := by
      rw [ht.captured hroute hb hr hx he hg hrow hcol hex,
        State.captureBeat_opens hc hheld (State.lowestFree_split hslots hv h1) hr,
        State.opened_eq r.tag hi hg htile, hfinish]
      · rw [← htaken]
        rfl
      · rw [State.closeIfLast_captures, State.openedWith_captures]
    have hwidth : taken.rowWidth h.segment = w := by
      rw [← htaken, State.rowWidth_congr (State.openedWith_kept ..)]
      exact State.rowWidth_eq hg
    refine ⟨fun hlast => ?_, fun hlast hp => ?_, fun c hlt hlast hm hl => ?_⟩
    · rw [hexec, State.closeIfLast_open hwidth hlast]
    · rw [hexec, State.closeIfLast_complete hwidth hlast hp]
    · rw [hexec, State.closeIfLast_gapped hwidth hlast hlt hm hl]
  · intro s m a i n e d bank r x g j ht hheld hroute hb hr hx he hg hrow hcol hex hc
      b w finish struck got osc pixels stored
    let h : HeldBeat := s.arrival bank b x
    have hfinish (u : State) (hu : u.captures bank = s.captures bank) : u.completeRaw h = finish u :=
      State.completeRaw_arriving (hu.trans (State.captures_eq hr)) rfl rfl
    refine ⟨fun hsame => ?_, fun hother hothers => ?_⟩
    · have hexec : exec (.rawWriteBeat m a i n e d) s = .next ((s.continueRow j h).completeRaw h).settle := by
        rw [ht.captured hroute hb hr hx he hg hrow hcol hex, State.captureBeat_fills hc hsame hheld]
      have filling : (s.strike h).setSlot j (s.filled j h) = stored := by
        rw [State.filled, State.imageWidth_eq (i := h.segment) hg]
        rfl
      have hstored (hn : (s.slot j).next ≤ x.column) : exec (.rawWriteBeat m a i n e d) s =
          .next (finish (stored.closeIfLast j h (s.filled j h))).settle := by
        rw [hexec, State.continueRow_stores hn, hfinish]
        · rw [filling]
        · rw [State.closeIfLast_captures]
          exact s.strike_captures h bank
      have hwidth : stored.rowWidth h.segment = w := by
        rw [← filling, State.rowWidth_congr ((State.setSlot_kept ..).trans (s.strike_kept h))]
        exact State.rowWidth_eq hg
      refine ⟨fun hn => ?_, fun hn hlast => ?_, fun hn hlast hp => ?_, fun c hlt hn hlast hm hl => ?_⟩
      · rw [hexec, State.continueRow_backward hn, hfinish _ (State.recordFault_captures _ _ _ _ _ _ _)]
        rfl
      · rw [hstored hn, State.closeIfLast_open hwidth hlast]
      · rw [hstored hn, State.closeIfLast_complete hwidth hlast hp]
      · rw [hstored hn, State.closeIfLast_gapped hwidth hlast hlt hm hl]
    · have frame := State.RowFrame.closeRow s j .short (s.slot j).next
      obtain ⟨v, hv, hslots⟩ := s.closeRow_slots j .short (s.slot j).next
      have closed : (s.closeRow j .short (s.slot j).next).collecting h.bank h.segment = none :=
        State.collecting_closed hv hslots hothers
      rw [ht.captured hroute hb hr hx he hg hrow hcol hex, State.captureBeat_other_row hc hother,
        frame.captured ht hroute hb hr hx he hg hrow hcol hex, State.captureBeat_new closed, State.closeRow_held]
      rfl
  · intro s i column kind hi v faulted
    refine ⟨s.isDuplicate_iff i, fun hd => State.closeRow_duplicate hd kind column, fun hd hw => ?_, fun hd hw => ?_, rfl⟩
    · exact State.closeRow_waiting hi hd (Slot.waitsForFrame_iff.2 hw) kind column
    · refine State.closeRow_ready hi hd ?_ kind column
      rw [Bool.eq_false_iff, ne_eq, Slot.waitsForFrame_iff]
      rintro ⟨x, hx, hp⟩
      exact hw x hx hp

end Sys2Proof.Machine

namespace Sys2Proof.Machine

/-! ### Presenting a pixel (O45) -/

/-! #### Classes (R49, R56, R71) -/

theorem assocGet_eq_find? {α : Type} (d : α) (k : Nat) (l : List (Nat × α)) :
    assocGet d k l = ((l.find? fun x => decide (x.1 = k)).map fun x => x.2).getD d := by
  induction l with
  | nil => rfl
  | cons a l ih =>
    rw [assocGet, List.find?_cons]
    by_cases h : k = a.1
    · simp [h]
    · simp [h, Ne.symm h, ih]

theorem classify_dead {v : Slot} {e : SegmentEntry} {r : ExposureRecord} {bias column raw : Nat}
    (h : v.flat.at column = some 0#16) : classify v e r bias column raw = none := by
  simp only [classify, if_pos h]

/-- A pixel that is not dead is saturated at the segment's level, or calibrated with the frames that are loaded. -/
theorem classify_alive {v : Slot} {e : SegmentEntry} {r : ExposureRecord} {bias column raw : Nat}
    (h : v.flat.at column ≠ some 0#16) : classify v e r bias column raw = some
      (if e.satLevel ≤ raw then .saturated else
        calibrate raw bias (((v.zero.at column).map fun x => x.toInt).getD 0)
          (darkCharge (((v.dark.at column).map fun x => x.toNat).getD 0) r.exposureTime)
          (((v.flat.at column).map fun x => x.toNat).getD 16384)
          (((r.factors.find? fun x => decide (x.1 = v.segment)).map fun x => x.2).getD 0)) := by
  simp only [classify, if_neg h, assocGet_eq_find?]
  split
  · rfl
  · cases v.zero.at column <;> cases v.dark.at column <;> cases v.flat.at column <;> rfl

/-! #### Placing and presenting (R70, R71, R83) -/

/-- The part with the row's next column moved on. -/
def State.movedPast (s : State) (a : Applying) (c : Nat) : State :=
  s.onPipe fun p => { p with applying := some { a with column := c + 1 } }

/-- The part with a pixel counted by its class. -/
def State.counted (s : State) (bank : Nat) (offGrid dead : Bool) : State :=
  s.onRecord bank fun r => { r with counters := r.counters.classified offGrid dead }

/-- PIXEL_PRESENT with no pixel waiting presents the next received image pixel of the row (R70). -/
theorem State.exec_pixelPresent {s : State} {a : Applying} {c : Nat} {raw : BitVec 16} (hr : s.inReset = false)
    (ha : s.pipe.applying = some a) (hp : a.pixel = none)
    (hn : (s.slot a.slot).nextPixel a.column (s.imageWidth (s.slot a.slot).segment) = some (c, raw)) :
    exec .pixelPresent s = .next (s.presentPixel a c raw).settle := by
  change s.happen s.presentEvent = _
  simp [State.happen, hr, State.presentEvent, ha, hp, hn]

section Present

variable {s : State} {a : Applying} {c : Nat} {r : ExposureRecord} {g : SegmentEntry} {p : PlacedSegment}

/-- What becomes of a pixel, by its place and its class. -/
theorem State.presentPixel_eq (raw : BitVec 16) (hg : s.segment (s.slot a.slot).segment = some g)
    (hr : s.recordOf (s.slot a.slot).bank = some r)
    (hp : r.map.segments.find? (fun x => decide (x.segment = (s.slot a.slot).segment)) = some p) :
    let v := s.slot a.slot
    s.presentPixel a c raw = match r.map.cell p c v.row with
      | none => ((s.movedPast a c).counted v.bank true false).rowCheck
      | some cell => match classify v g r a.bias c raw.toNat with
        | none => ((s.movedPast a c).counted v.bank false true).rowCheck
        | some kind => (((s.movedPast a c).counted v.bank false false).offerPixel
            ⟨cellAddress r.map.base cell, r.product, v.tag, v.bank, v.segment, v.row, c, kind⟩).rowCheck := by
  have hr' : (s.movedPast a c).recordOf (s.slot a.slot).bank = some r := hr
  have hg' : (s.movedPast a c).segment (s.slot a.slot).segment = some g := hg
  unfold State.movedPast at hr' hg'
  simp only [State.presentPixel, hr', hg', hp, Option.bind_some]
  rfl

end Present

/-! #### Offering a pixel (R96, R97, R99) -/

theorem State.cellLocked_eq_false {s : State} {addr : Nat} :
    s.cellLocked addr = false ↔ ∀ l, s.bus.lock = some l → l.unit ≠ addr := by
  unfold State.cellLocked
  split <;> simp_all

theorem State.cellLocked_iff {s : State} {addr : Nat} :
    s.cellLocked addr = true ↔ ∃ l, s.bus.lock = some l ∧ l.unit = addr := by
  unfold State.cellLocked
  split <;> simp_all

theorem State.offerPixel_hit {s : State} {px : Pixel} {i : Nat} (hl : s.cellLocked px.addr = false)
    (hi : s.entryOf px.addr = some i) (hb : ∀ b ∈ s.bus.heldCells, b.unit ≠ px.addr) :
    s.offerPixel px = s.decidePixel px i := by
  have free : (s.bus.heldCells.any fun b => decide (b.unit = px.addr)) = false := by simpa using hb
  simp only [State.offerPixel, hl, hi, free, if_neg Bool.false_ne_true]

theorem State.offerPixel_miss {s : State} {px : Pixel} (hl : s.cellLocked px.addr = false)
    (hi : s.entryOf px.addr = none) : s.offerPixel px = s.allocate px := by
  simp only [State.offerPixel, hl, hi, if_neg Bool.false_ne_true]

/-- A pixel waits while its cell is locked, or a frame bus beat is held on its entry. -/
theorem State.offerPixel_waits {s : State} {px : Pixel} (h : s.cellLocked px.addr = true ∨
    (s.entryOf px.addr ≠ none ∧ ∃ b ∈ s.bus.heldCells, b.unit = px.addr)) :
    s.offerPixel px = s.setWaiting (some (px, .access)) := by
  unfold State.offerPixel
  split
  · rfl
  · next hl =>
    obtain ⟨hi, b, hb, hu⟩ := h.resolve_left hl
    obtain ⟨i, hi⟩ := Option.ne_none_iff_exists'.1 hi
    simp only [hi]
    exact if_pos (List.any_eq_true.2 ⟨b, hb, decide_eq_true hu⟩)

/-- The merge decision on a held cell (R99). -/
theorem State.decidePixel_eq {s : State} {i : Nat} {e : Entry} (he : s.entry i = some e) (px : Pixel) :
    let out := mergeDecision (s.clipOf px.product) px.tag px.kind e.record
    s.decidePixel px i = (((s.setEntry i (some { e with
      record := out.1, state := .dirty
      writeOutstanding := e.writeOutstanding || decide (e.state = .writing) })).touch i).countDecision px
        out.2).setWaiting none := by
  simp only [State.decidePixel, he]

theorem State.countDecision_eq (s : State) (px : Pixel) (d : Decided) :
    s.countDecision px d = s.onRecord px.bank fun r => { r with
      counters := r.counters.decided d
      included := r.included.map fun x =>
        if (s.segment px.segment).map (fun g => g.tile) = some x.tile then x.decided d else x } := by
  simp only [State.countDecision, eq_comm (a := some _)]

/-! #### Allocation (R96) -/

theorem entryIn_iff {st : EntryState} {o : Option Entry} : entryIn st o = true ↔ ∃ e, o = some e ∧ e.state = st := by
  cases o <;> simp [entryIn]

/-- The part with an entry allocated to a pixel, which waits for its fill. -/
def State.allocated (s : State) (px : Pixel) (i : Nat) : State :=
  (((s.dropEntry i).setEntry i (some ⟨px.addr, px.product, CellRecord.empty, .filling, false, false, false⟩)).touch
    i).setWaiting (some (px, .fill))

theorem State.allocate_some {s : State} {px : Pixel} {i : Nat} (h : s.allocatable = some i) :
    s.allocate px = (s.allocated px i).askFill := by
  simp only [State.allocate, h]
  rfl

theorem State.allocate_none {s : State} {px : Pixel} (h : s.allocatable = none) :
    s.allocate px = s.setWaiting (some (px, .allocation)) := by
  simp only [State.allocate, h]

/-- The lowest-numbered free entry, where there is one. -/
theorem State.allocatable_free {s : State} {l1 l2 : List (Option Entry)} (hs : s.merge.entries = l1 ++ none :: l2)
    (h1 : ∀ e ∈ l1, e ≠ none) : s.allocatable = some l1.length := by
  have found : (s.merge.entries.findIdx? fun e => e.isNone) = some l1.length := by
    rw [hs]
    exact findIdx?_split l2 (fun e he => Option.isNone_eq_false_iff.2 (Option.isSome_iff_ne_none.2 (h1 e he))) rfl
  simp only [State.allocatable, found]

/-- Else the least recently used CLEAN one. -/
theorem State.allocatable_held {s : State} (h : ∀ e ∈ s.merge.entries, e ≠ none) :
    s.allocatable = s.merge.order.find? fun i => entryIn .clean (s.entry i) := by
  have full : (s.merge.entries.findIdx? fun e => e.isNone) = none :=
    List.findIdx?_eq_none_iff.2 fun e he =>
      Option.isNone_eq_false_iff.2 (Option.isSome_iff_ne_none.2 (h e he))
  simp only [State.allocatable, full]

/-! #### Fills (R97) -/

/-- A FILLING entry whose fill has not been asked. -/
def Entry.unasked (e : Entry) : Prop := e.state = .filling ∧ e.fillAsked = false

theorem unasked_iff {o : Option Entry} :
    (entryIn .filling o && !(o.any fun x => x.fillAsked)) = true ↔ ∃ e, o = some e ∧ e.unasked := by
  cases o <;> simp [entryIn, Entry.unasked]

theorem State.exists_entry {s : State} {e : Entry} (he : some e ∈ s.merge.entries) : ∃ i, s.entry i = some e := by
  obtain ⟨i, hi, h⟩ := List.mem_iff_getElem.1 he
  exact ⟨i, (List.getD_eq_getElem _ _ hi).trans h⟩

/-- Without an entry to fill, no fill is asked. -/
theorem State.askFill_none {s : State} (h : ∀ i e, s.entry i = some e → ¬e.unasked) : s.askFill = s := by
  have none_unasked : (s.merge.entries.findIdx? fun e => entryIn .filling e && !(e.any fun x => x.fillAsked)) = none := by
    refine List.findIdx?_eq_none_iff.2 fun o ho => ?_
    rw [Bool.eq_false_iff, ne_eq, unasked_iff]
    rintro ⟨e, rfl, hu⟩
    obtain ⟨i, hi⟩ := State.exists_entry ho
    exact h i e hi hu
  simp only [State.askFill, none_unasked]

/-- A fill is asked unless its cell is locked or a frame bus write to it has not completed. -/
theorem State.askFill_first {s : State} {l1 : List (Option Entry)} {e : Entry} {l2 : List (Option Entry)}
    (hs : s.merge.entries = l1 ++ some e :: l2) (he : e.unasked) (h1 : ∀ x, some x ∈ l1 → ¬x.unasked) :
    s.askFill = if s.cellLocked e.addr || s.writeUnderway e.addr then s
      else (s.setEntry l1.length (some { e with fillAsked := true })).ask ⟨.fill, e.addr, none⟩ := by
  have first : (s.merge.entries.findIdx? fun e => entryIn .filling e && !(e.any fun x => x.fillAsked)) =
      some l1.length := by
    rw [hs]
    refine findIdx?_split l2 (fun o ho => ?_) (unasked_iff.2 ⟨e, rfl, he⟩)
    rw [Bool.eq_false_iff, ne_eq, unasked_iff]
    rintro ⟨x, rfl, hu⟩
    exact h1 x ho hu
  have hentry : s.entry l1.length = some e := by simp [State.entry, hs]
  simp only [State.askFill, first, hentry]

theorem State.writeUnderway_iff {s : State} {addr : Nat} : s.writeUnderway addr = true ↔
    (∃ k ∈ s.port.asks, isBusWrite k.job = true ∧ k.unit = addr) ∨
      (∃ k ∈ s.port.inFlight, isBusWrite k.job = true ∧ k.unit = addr) ∨
      ∃ b ∈ s.bus.heldCells, b.write = true ∧ b.unit = addr := by
  simp [State.writeUnderway, or_assoc]

end Sys2Proof.Machine

namespace Sys2Proof.Machine

/-! #### The entry allocated (R96) -/

/-- An entry that is not a CLEAN one held. -/
def State.unclean (s : State) (j : Nat) : Prop := ∀ e, s.entry j = some e → e.state ≠ .clean

theorem State.unclean_iff {s : State} {j : Nat} : s.unclean j ↔ entryIn .clean (s.entry j) = false := by
  rw [Bool.eq_false_iff, ne_eq, entryIn_iff]
  exact ⟨fun h ⟨e, he, hc⟩ => h e he hc, fun h e he hc => h ⟨e, he, hc⟩⟩

/-- With every entry held, the first CLEAN one in the order of use is allocated. -/
theorem State.allocatable_clean {s : State} (hf : ∀ e ∈ s.merge.entries, e ≠ none) {l1 l2 : List Nat} {i : Nat}
    {e : Entry} (ho : s.merge.order = l1 ++ i :: l2) (he : s.entry i = some e) (hc : e.state = .clean)
    (h1 : ∀ j ∈ l1, s.unclean j) : s.allocatable = some i := by
  rw [State.allocatable_held hf, List.find?_eq_some_iff_append]
  exact ⟨entryIn_iff.2 ⟨e, he, hc⟩, l1, l2, ho, fun j hj => by rw [State.unclean_iff.1 (h1 j hj)]; rfl⟩

/-- With every entry held and none CLEAN, none is allocated. -/
theorem State.allocatable_unclean {s : State} (hf : ∀ e ∈ s.merge.entries, e ≠ none)
    (h : ∀ j ∈ s.merge.order, s.unclean j) : s.allocatable = none := by
  rw [State.allocatable_held hf, List.find?_eq_none]
  exact fun j hj => Bool.eq_false_iff.1 (State.unclean_iff.1 (h j hj))

/-! #### The end of a row (R44, R70, R128, R129) -/

theorem State.imageWidth_eq_getD (s : State) (i : Nat) :
    s.imageWidth i = ((s.segment i).map fun g => g.width).getD 0 := by
  unfold State.imageWidth
  cases s.segment i <;> rfl

theorem Slot.nextPixel_isSome {v : Slot} {column width : Nat} :
    (v.nextPixel column width).isSome = true ↔ ∃ x ∈ v.pixels, column ≤ x.1 ∧ x.1 < width := by
  simp [Slot.nextPixel, List.find?_isSome]

theorem State.rowsExpected_eq {s t : State} (h : t.kept = s.kept) (r : ExposureRecord) :
    t.rowsExpected r = (r.map.segments.map fun x => ((s.segment x.segment).map fun g => g.rows).getD 0).sum := by
  unfold State.rowsExpected
  refine congrArg List.sum (List.map_congr_left fun x _ => ?_)
  rw [State.segment_congr h]
  cases s.segment x.segment <;> rfl

/-- The part with a row marked done and its slot FREE, before the slot is handed on. -/
def State.rowDone (s : State) (a : Applying) : State :=
  ((s.onPipe fun p => { p with applying := none }).onRecord (s.slot a.slot).bank fun y =>
    { y with rowMap := y.rowMap ++ [((s.slot a.slot).segment, (s.slot a.slot).row)] }).freeSlot a.slot

theorem State.rowDone_recordOf {s : State} {a : Applying} {r : ExposureRecord}
    (hr : s.recordOf (s.slot a.slot).bank = some r) : (s.rowDone a).recordOf (s.slot a.slot).bank =
      some { r with rowMap := r.rowMap ++ [((s.slot a.slot).segment, (s.slot a.slot).row)] } := by
  unfold State.rowDone State.recordOf
  rw [State.freeSlot_expo]
  exact State.recordOf_onRecord_same (s := s.onPipe fun p => { p with applying := none }) hr fun _ => rfl

theorem State.rowDone_rowsExpected (s : State) (a : Applying) (r : ExposureRecord) : (s.rowDone a).rowsExpected r =
    (r.map.segments.map fun x => ((s.segment x.segment).map fun g => g.rows).getD 0).sum :=
  State.rowsExpected_eq (by rw [State.rowDone, State.freeSlot_kept]; rfl) r

section FinishRow

variable {s : State} {a : Applying} {r : ExposureRecord}

theorem State.finishRow_eq (hr : s.recordOf (s.slot a.slot).bank = some r) :
    s.finishRow a = ((if r.state = .active ∧ r.endStatus = none ∧ r.rowMap.length + 1 =
        (r.map.segments.map fun x => ((s.segment x.segment).map fun g => g.rows).getD 0).sum
      then (s.rowDone a).completeExposure (s.slot a.slot).bank else s.rowDone a).handOn).drainCheck
        (s.slot a.slot).bank := by
  have hrec := State.rowDone_recordOf hr
  have hexp := s.rowDone_rowsExpected a { r with rowMap := r.rowMap ++ [((s.slot a.slot).segment, (s.slot a.slot).row)] }
  unfold State.rowDone at hrec hexp ⊢
  simp only [State.finishRow, hrec, hexp, List.length_append, List.length_singleton]

/-- A row map that is not complete leaves the exposure as it is. -/
theorem State.finishRow_partial (hr : s.recordOf (s.slot a.slot).bank = some r)
    (h : ¬(r.state = .active ∧ r.endStatus = none ∧ r.rowMap.length + 1 =
      (r.map.segments.map fun x => ((s.segment x.segment).map fun g => g.rows).getD 0).sum)) :
    s.finishRow a = ((s.rowDone a).handOn).drainCheck (s.slot a.slot).bank := by
  rw [State.finishRow_eq hr, if_neg h]

/-- A complete row map ends the exposure before the freed slot is handed on (logs 35 and 44). -/
theorem State.finishRow_whole (hr : s.recordOf (s.slot a.slot).bank = some r)
    (h : r.state = .active ∧ r.endStatus = none ∧ r.rowMap.length + 1 =
      (r.map.segments.map fun x => ((s.segment x.segment).map fun g => g.rows).getD 0).sum) :
    s.finishRow a =
      (((s.rowDone a).completeExposure (s.slot a.slot).bank).handOn).drainCheck (s.slot a.slot).bank := by
  rw [State.finishRow_eq hr, if_pos h]

end FinishRow

/-! #### The statement -/

/-- Settles O45: a pixel by its place, its class and the state of its cell, an allocation by the entries held, a fill by
what blocks it, and the end of a row by its row map. -/
theorem pixelPresented : Obligations.PixelPresented := by
  unfold Obligations.PixelPresented
  refine ⟨?_, ?_, ?_⟩
  · intro s a c raw r g p hr ha hpx hn hg hrec hp v value t count
    have presented := State.exec_pixelPresent hr ha hpx ((State.imageWidth_eq hg).symm ▸ hn)
    rw [State.presentPixel_eq raw hg hrec hp] at presented
    refine ⟨fun hc => ?_, fun cell hc => ⟨fun hflat => ?_, fun hflat => ?_⟩⟩
    · rw [presented, hc]
      rfl
    · rw [presented, hc, classify_dead hflat]
      rfl
    · intro addr z d flat factor kind px u clear
      rw [hc, classify_alive hflat] at presented
      replace presented : exec .pixelPresent s = .next (u.offerPixel px).rowCheck.settle := presented
      have unlocked : clear → u.cellLocked addr = false := State.cellLocked_eq_false.2
      refine ⟨fun i e hi he hclear hb => ?_, fun hi hclear => ?_, fun hw => ?_⟩
      · have he' : u.entry i = some e := he
        rw [presented, State.offerPixel_hit (unlocked hclear) hi hb, State.decidePixel_eq he' px]
        rfl
      · rw [presented, State.offerPixel_miss (unlocked hclear) hi]
      · rw [presented, State.offerPixel_waits (hw.imp_left fun h => ?_)]
        exact Bool.not_eq_false _ ▸ fun hl => h (State.cellLocked_eq_false.1 hl)
  · intro s px taken unclean
    refine ⟨fun l1 l2 hs h1 => State.allocate_some (State.allocatable_free hs h1), fun hf => ⟨?_, ?_⟩, ?_, ?_⟩
    · intro l1 i l2 e ho he hc h1
      exact State.allocate_some (State.allocatable_clean hf ho he hc h1)
    · exact fun h => State.allocate_none (State.allocatable_unclean hf h)
    · refine ⟨State.askFill_none, fun l1 e l2 hs he h1 => ?_⟩
      have blocks : (s.cellLocked e.addr || s.writeUnderway e.addr) = true ↔ _ :=
        Bool.or_eq_true_iff.trans (or_congr State.cellLocked_iff State.writeUnderway_iff)
      rw [State.askFill_first hs he h1]
      exact ⟨fun hb => if_pos (blocks.2 hb), fun hb => if_neg fun h => hb (blocks.1 h)⟩
    · intro d
      rw [State.countDecision_eq]
      cases d <;> rfl
  · intro s a ha v width more
    have next_iff : (v.nextPixel a.column (s.imageWidth v.segment)).isSome = true ↔ more := by
      rw [State.imageWidth_eq_getD]
      exact Slot.nextPixel_isSome
    refine ⟨fun h => State.rowCheck_stays ha (h.imp_right next_iff.2), fun hpx hm => ?_, fun r hr => ⟨?_, ?_⟩⟩
    · exact State.rowCheck_finishes ha hpx (Option.not_isSome_iff_eq_none.1 fun h => hm (next_iff.1 h))
    · exact State.finishRow_partial hr
    · intro hw ended open_
      rw [State.finishRow_whole hr hw]
      exact congrArg (fun t : State => t.handOn.drainCheck v.bank)
        (State.closeCollecting_eq (s := ended) (t := ended) rfl v.bank)

end Sys2Proof.Machine

namespace Sys2Proof.Machine

/-! ### Calibration beats delivered (O47) -/

/-! #### The next beat asked (R53) -/

theorem State.fetchAsk_asking {s : State} (h : s.asking isCalRead = true) : s.fetchAsk = s := if_pos h

theorem State.fetchAsk_nil {s : State} (h : s.fetch = []) : s.fetchAsk = s := by
  rw [State.fetchAsk, h, ite_self]

section HeadFetch

variable {s : State} {f : Fetch} {rest : List Fetch}

theorem State.fetchAsk_all_asked (hf : s.fetch = f :: rest) (h : f.beats ≤ f.asked) : s.fetchAsk = s := by
  simp only [State.fetchAsk, hf, if_neg (Nat.not_lt.2 h), ite_self]

theorem State.fetchAsk_asks (hf : s.fetch = f :: rest) (ha : s.asking isCalRead = false) (h : f.asked < f.beats) :
    s.fetchAsk = (s.setFetch ({ f with asked := f.asked + 1 } :: rest)).ask
      ⟨.calRead f.slot f.frame f.asked, f.addr + 8 * f.asked, none⟩ := by
  simp only [State.fetchAsk, ha, hf, if_neg Bool.false_ne_true, if_pos h]

end HeadFetch

/-! #### The one fetch of a slot's frame -/

/-- The fetch list holds `x`, and no other fetch of its slot and frame. -/
structure State.OneFetch (s : State) (l1 : List Fetch) (x : Fetch) (l2 : List Fetch) : Prop where
  listed : s.fetch = l1 ++ x :: l2
  others : ∀ y ∈ l1 ++ l2, y.slot ≠ x.slot ∨ y.frame ≠ x.frame

/-- An uncorrectable beat is a fault at the first column it covers, and the slot's other reads are withdrawn or
discarded (R55). -/
def State.calFaulted (i k : Nat) (s : State) : State :=
  State.discardReads (isCalReadOf i) (State.withdraw (isCalReadOf i)
    (s.recordFault (s.slot i).bank .calFault (s.slot i).segment (s.slot i).row (4 * k)))

namespace State.OneFetch

variable {s : State} {l1 l2 : List Fetch} {x : Fetch}

theorem congr {t : State} (h : s.OneFetch l1 x l2) (ht : t.fetch = s.fetch) : t.OneFetch l1 x l2 :=
  ⟨ht.trans h.listed, h.others⟩

theorem other_differs (h : s.OneFetch l1 x l2) {y : Fetch} (hy : y ∈ l1 ∨ y ∈ l2) :
    (decide (y.slot = x.slot) && decide (y.frame = x.frame)) = false := by
  simpa [imp_iff_not_or] using h.others y (List.mem_append.2 hy)

theorem find? (h : s.OneFetch l1 x l2) :
    (s.fetch.find? fun y => decide (y.slot = x.slot) && decide (y.frame = x.frame)) = some x := by
  rw [h.listed, List.find?_eq_some_iff_append]
  refine ⟨by simp, l1, l2, rfl, fun y hy => ?_⟩
  rw [h.other_differs (.inl hy), Bool.not_false]

/-- Completed, it leaves the list (R53). -/
theorem removed (h : s.OneFetch l1 x l2) :
    (s.fetch.filter fun y => !(decide (y.slot = x.slot) && decide (y.frame = x.frame))) = l1 ++ l2 := by
  have kept (l : List Fetch) (hl : ∀ y ∈ l, y ∈ l1 ∨ y ∈ l2) :
      (l.filter fun y => !(decide (y.slot = x.slot) && decide (y.frame = x.frame))) = l :=
    List.filter_eq_self.2 fun y hy => by rw [h.other_differs (hl y hy), Bool.not_false]
  rw [h.listed, List.filter_append, List.filter_cons_of_neg (by simp), kept l1 fun _ => .inl, kept l2 fun _ => .inr]

/-- An update of it leaves the rest of the list as it was. -/
theorem replaced (h : s.OneFetch l1 x l2) (x' : Fetch) :
    (s.fetch.map fun y => if decide (y.slot = x.slot) && decide (y.frame = x.frame) then x' else y) =
      l1 ++ x' :: l2 := by
  have kept (l : List Fetch) (hl : ∀ y ∈ l, y ∈ l1 ∨ y ∈ l2) :
      (l.map fun y => if decide (y.slot = x.slot) && decide (y.frame = x.frame) then x' else y) = l :=
    (List.map_congr_left fun y hy => by rw [h.other_differs (hl y hy), if_neg Bool.false_ne_true]).trans
      (List.map_id' l)
  rw [h.listed, List.map_append, List.map_cons, if_pos (by simp), kept l1 fun _ => .inl, kept l2 fun _ => .inr]

/-! #### A beat of a fetch (R54, R55) -/

/-- The fetch completes: it leaves the list, the frame takes `h`, the slot is tested for the ready queue and the unit
turns to the next head (R43, R53, R54). -/
theorem completeFetch (hx : s.OneFetch l1 x l2) (status : FrameStatus) (row : List (BitVec 16)) :
    s.completeFetch x status row =
      (((s.setFetch (l1 ++ l2)).setSlot x.slot ((s.slot x.slot).setFrame x.frame ⟨some status, row⟩)).readyTest
        x.slot).fetchAsk := by
  rw [State.completeFetch, hx.removed]
  rfl

/-- A beat that reads well is kept; with the last one the frame is LOADED (R54). -/
theorem fetchDelivered_reads (hx : s.OneFetch l1 x l2) (k : Nat) (data : Word) {found : EccCondition}
    (hf : found ≠ .uncorrectable) :
    s.fetchDelivered x.slot x.frame k data found =
      if x.got.length + 1 = x.beats then
        s.completeFetch x .loaded (rowValues (gathered x.beats (x.got ++ [(k, data)])))
      else s.setFetch (l1 ++ { x with got := x.got ++ [(k, data)] } :: l2) := by
  rw [← hx.replaced]
  simp only [State.fetchDelivered, hx.find?, List.length_append, List.length_singleton]

/-- An uncorrectable beat makes the frame FAULTED (R55). -/
theorem fetchDelivered_faults (hx : s.OneFetch l1 x l2) (k : Nat) (data : Word) :
    s.fetchDelivered x.slot x.frame k data .uncorrectable = (s.calFaulted x.slot k).completeFetch x .faulted [] := by
  simp only [State.fetchDelivered, hx.find?]
  rfl

theorem calFaulted (hx : s.OneFetch l1 x l2) (i k : Nat) : (s.calFaulted i k).OneFetch l1 x l2 := hx.congr rfl

end State.OneFetch

/-! #### The command -/

section Command

variable {s : State} {which unit : Nat} {data : Word} {found : EccCondition} {rest : List Access}

/-- A discarded read reaches no slot (R58). -/
theorem State.exec_calFetchBeatDelivered_discard (h : s.Delivers isCalJob which .calDiscard unit data found rest) :
    exec (.calFetchBeatDelivered which) s = .next (s.delivered found rest).settle := by
  change s.happen (s.calEvent which) = _
  simp [State.happen, h.running, State.calEvent, h.deliverNth]

theorem State.exec_calFetchBeatDelivered {i k : Nat} {f : Frame}
    (h : s.Delivers isCalJob which (.calRead i f k) unit data found rest) :
    exec (.calFetchBeatDelivered which) s = .next ((s.delivered found rest).fetchDelivered i f k data found).settle := by
  change s.happen (s.calEvent which) = _
  simp [State.happen, h.running, State.calEvent, h.deliverNth]

end Command

/-- Settles O47: the command, by the read delivered and what became of its data, and the next beat asked, by the head of
the list. -/
theorem calBeats : Obligations.CalBeats := by
  unfold Obligations.CalBeats
  refine ⟨fun s which unit i k f data found rest l1 l2 x => ⟨State.exec_calFetchBeatDelivered_discard, ?_⟩,
    fun s => ⟨?_, fun f rest hf => ⟨State.fetchAsk_all_asked hf, State.fetchAsk_asks hf⟩⟩⟩
  · intro hd hl hi hframe hothers t finish
    subst hi hframe
    have one : t.OneFetch l1 x l2 := State.OneFetch.congr ⟨hl, hothers⟩ (s.delivered_fetch found rest)
    rw [State.exec_calFetchBeatDelivered hd]
    refine ⟨fun hok hmore => ?_, fun hok hlast => ?_, fun hbad => ?_⟩
    · rw [one.fetchDelivered_reads k data hok, if_neg hmore]
    · rw [one.fetchDelivered_reads k data hok, if_pos hlast, one.completeFetch]
    · subst hbad
      have hslot : t.slot x.slot = s.slot x.slot := by
        rw [State.slot, State.delivered_capture]
        rfl
      rw [one.fetchDelivered_faults, (one.calFaulted x.slot k).completeFetch, State.calFaulted, hslot]
  · rintro (ha | hn)
    · exact State.fetchAsk_asking ha
    · exact State.fetchAsk_nil hn

end Sys2Proof.Machine

namespace Sys2Proof.Machine

/-! ### Clamped integers (00_scope.md, Arithmetic Words) -/

theorem clamp_eq_max_min {lo hi : Int} (h : lo ≤ hi) (z : Int) : clamp lo hi z = max lo (min hi z) := by
  unfold clamp
  split
  · omega
  · split <;> omega

/-- A value within the limits is left alone. -/
theorem clamp_of_mem {lo hi z : Int} (hlo : lo ≤ z) (hhi : z ≤ hi) : clamp lo hi z = z := by
  rw [clamp, if_neg (Int.not_lt.2 hlo), if_neg (Int.not_lt.2 hhi)]

theorem clamp_of_lt {lo hi z : Int} (h : z < lo) : clamp lo hi z = lo := if_pos h

theorem clamp_of_gt {lo hi z : Int} (hl : lo ≤ hi) (h : hi < z) : clamp lo hi z = hi := by
  rw [clamp, if_neg (Int.not_lt.2 (hl.trans h.le)), if_pos h]

theorem clamp_mem {lo hi : Int} (h : lo ≤ hi) (z : Int) : lo ≤ clamp lo hi z ∧ clamp lo hi z ≤ hi := by
  rw [clamp_eq_max_min h]
  omega

/-- Clamping changes exactly the values beyond a limit. -/
theorem clamp_ne_iff {lo hi : Int} (h : lo ≤ hi) (z : Int) : clamp lo hi z ≠ z ↔ z < lo ∨ hi < z := by
  rw [clamp_eq_max_min h]
  omega

/-! ### The merge decision (O56) -/

/-- R75's threshold, as an absolute difference. -/
theorem clipRejects_iff (clip : Clip) (r : CellRecord) (c : Int) :
    clipRejects clip r c = true ↔ 0 < clip.min ∧ clip.min ≤ r.hits ∧
      ((clip.floor + (r.sum.tdiv r.hits).natAbs / 2 ^ clip.shift : Nat) : Int) < |c - r.sum.tdiv r.hits| := by
  simp only [clipRejects, Bool.and_eq_true, decide_eq_true_eq, and_assoc, Int.abs_eq_natAbs, Int.ofNat_lt]

theorem or_flagIf (f g : BitVec 8) (b : Bool) : f ||| flagIf b g = if b then f ||| g else f := by
  cases b
  · exact BitVec.or_zero
  · rfl

/-- Flags are only ever added. -/
theorem flags_or_and (f g : BitVec 8) : (f ||| g) &&& f = f := by
  ext i hi
  simp only [BitVec.getElem_and, BitVec.getElem_or]
  cases f[i] <;> simp

section MergeValue

variable (clip : Clip) (tag : Nat) (r : CellRecord) (c : Int) (mark : Bool)

/-- A full cell counts no further pixel (R74). -/
theorem mergeDecision_full (h : r.hits = 65535) : mergeDecision clip tag (.value c mark) r =
    (⟨r.sum, r.hits, r.flags ||| flagIf mark flagClamp ||| flagFull, tag⟩, .full) := if_pos h

variable {r}

/-- A value too far from the cell's mean is rejected (R75). -/
theorem mergeDecision_rejected {clip : Clip} {c : Int} (h : r.hits ≠ 65535) (hr : clipRejects clip r c = true) :
    mergeDecision clip tag (.value c mark) r =
      (⟨r.sum, r.hits, r.flags ||| flagIf mark flagClamp ||| flagReject, tag⟩, .rejected) := by
  rw [mergeDecision, if_neg h, if_pos hr]

/-- Any other is added to the sum, which is clamped (R76). -/
theorem mergeDecision_applied {clip : Clip} {c : Int} (h : r.hits ≠ 65535) (hr : clipRejects clip r c ≠ true) :
    mergeDecision clip tag (.value c mark) r =
      (⟨clamp sumMin sumMax (r.sum + c), r.hits + 1, r.flags ||| flagIf mark flagClamp |||
        flagIf (decide (r.sum + c < sumMin ∨ sumMax < r.sum + c)) flagOverflow, tag⟩, .applied) := by
  rw [mergeDecision, if_neg h, if_neg hr]

end MergeValue

/-- The limits of a cell record's sum and hits (R89). -/
def CellRecord.InRange (r : CellRecord) : Prop := r.hits ≤ 65535 ∧ sumMin ≤ r.sum ∧ r.sum ≤ sumMax

/-- Whatever its outcome, a value keeps the cell in range, clears no flag and sets the tag. -/
theorem mergeDecision_keeps (clip : Clip) (tag : Nat) (r : CellRecord) (c : Int) (mark : Bool) :
    let out := mergeDecision clip tag (.value c mark) r
    (r.InRange → out.1.InRange) ∧ out.1.flags &&& r.flags = r.flags ∧ out.1.tag = tag := by
  have grown (f g : BitVec 8) : (r.flags ||| f ||| g) &&& r.flags = r.flags := by
    rw [BitVec.or_assoc, flags_or_and]
  intro out
  by_cases hfull : r.hits = 65535
  · have e : out = _ := mergeDecision_full clip tag r c mark hfull
    exact e ▸ ⟨id, grown _ _, rfl⟩
  · by_cases hr : clipRejects clip r c = true
    · have e : out = _ := mergeDecision_rejected tag mark hfull hr
      exact e ▸ ⟨id, grown _ _, rfl⟩
    · have e : out = _ := mergeDecision_applied tag mark hfull hr
      rw [e]
      refine ⟨fun hin => ⟨?_, clamp_mem (by decide) _⟩, grown _ _, rfl⟩
      exact Nat.lt_of_le_of_ne hin.1 hfull

/-- Settles O56: one equation for each outcome, and what all of them keep. -/
theorem mergeDecided : Obligations.MergeDecided := by
  unfold Obligations.MergeDecided
  intro clip tag r c mark out flags mean rejects
  have hflags : flags = r.flags ||| flagIf mark flagClamp := (or_flagIf _ _ _).symm
  have hrejects : clipRejects clip r c = true ↔ rejects := clipRejects_iff clip r c
  obtain ⟨hrange, hkept, htag⟩ := mergeDecision_keeps clip tag r c mark
  refine ⟨rfl, fun hfull => ?_, fun hfull hr => ?_, fun hfull hr => ?_, fun hhits hmin hmax => ?_, hkept, htag⟩
  · rw [hflags]
    exact mergeDecision_full clip tag r c mark hfull
  · rw [hflags]
    exact mergeDecision_rejected tag mark hfull (hrejects.2 hr)
  · have happlied : out = _ := mergeDecision_applied tag mark hfull (mt hrejects.1 hr)
    rw [← hflags, or_flagIf, sumMin, sumMax] at happlied
    refine ⟨fun hlo hhi => ?_, fun hover => ?_, fun hunder => ?_⟩
    · rw [happlied, clamp_of_mem hlo hhi, if_neg (by simp; omega)]
    · rw [happlied, clamp_of_gt (by decide) hover, if_pos (decide_eq_true (.inr hover))]
      rfl
    · rw [happlied, clamp_of_lt hunder, if_pos (decide_eq_true (.inl hunder))]
      rfl
  · exact hrange ⟨hhits, hmin, hmax⟩

end Sys2Proof.Machine

namespace Sys2Proof.Machine

/-! ### The calibration arithmetic (R66 to R69) -/

/-- The dark charge at the largest frame value and exposure time (R66). -/
theorem darkCharge_le {d e : Nat} (hd : d ≤ 65535) (he : e ≤ 4194303) : darkCharge d e ≤ 262140 := by
  have hde : d * e ≤ 65535 * 4194303 := Nat.mul_le_mul hd he
  unfold darkCharge
  omega

/-- A calibrated pixel's value with its mark, set when either clamp changed something (R67, R69). -/
theorem calibrate_eq (p b : Nat) (z : Int) (dk g k : Nat) :
    calibrate p b z dk g k =
      let q0 := preScaleExact p b z dk
      let c0 := calibratedExact (max (-65536) (min 65535 q0)) g k
      .value (max (-2097152) (min 2097151 c0))
        (decide (q0 < -65536 ∨ 65535 < q0 ∨ c0 < -2097152 ∨ 2097151 < c0)) := by
  have hq : (-65536 : Int) ≤ 65535 := by decide
  have hc : (-2097152 : Int) ≤ 2097151 := by decide
  simp only [calibrate, preScale, calibrated, clamp_ne_iff hq, clamp_ne_iff hc, ← Bool.decide_or, or_assoc]
  rw [clamp_eq_max_min hq, clamp_eq_max_min hc]

/-! ### The cell of a position (R82 to R84) -/

/-- The quotient of a position by the bin is in a product's grid exactly when the position is (R83). -/
theorem ediv_mem_iff {bin : Nat} (hb : 0 < bin) (u : Int) (n : Nat) :
    (0 ≤ u / (bin : Int) ∧ u / (bin : Int) < n) ↔ 0 ≤ u ∧ u < (n * bin : Int) := by
  have hb' : (0 : Int) < bin := Int.natCast_pos.2 hb
  rw [Int.ediv_nonneg_iff_of_pos hb', Int.ediv_lt_iff_lt_mul hb']

/-- A row-major index lies in the grid and gives its column and row back (R84). -/
theorem cellIndex_spec {x y w h : Nat} (hx : x < w) (hy : y < h) :
    y * w + x < w * h ∧ (y * w + x) % w = x ∧ (y * w + x) / w = y := by
  have hw : 0 < w := Nat.zero_lt_of_lt hx
  refine ⟨?_, ?_, ?_⟩
  · calc y * w + x < y * w + w := Nat.add_lt_add_left hx _
      _ = w * (y + 1) := by ring
      _ ≤ w * h := Nat.mul_le_mul_left w hy
  · rw [Nat.mul_add_mod_self_right, Nat.mod_eq_of_lt hx]
  · rw [Nat.mul_comm, Nat.mul_add_div hw, Nat.div_eq_of_lt hx, Nat.add_zero]

section Cell

variable {m : PlacementMap} {p : PlacedSegment} {x y : Nat} {u v : Int}

/-- A pixel is off the grid exactly when its position is beyond one of the grid's edges (R82, R83). -/
theorem PlacementMap.cell_eq_none_iff (hb : 0 < m.bin) (huv : orient p.orientation p.u0 p.v0 x y = (u, v)) :
    m.cell p x y = none ↔ u < 0 ∨ (m.width * m.bin : Int) ≤ u ∨ v < 0 ∨ (m.height * m.bin : Int) ≤ v := by
  have hu := ediv_mem_iff hb u m.width
  have hv := ediv_mem_iff hb v m.height
  rw [PlacementMap.cell, huv, ite_eq_right_iff]
  simp only [reduceCtorEq, imp_false]
  rw [← and_assoc, hu, hv]
  omega

/-- A pixel on the grid falls in the cell whose column and row are its position's quotients by the bin (R82 to R84). -/
theorem PlacementMap.cell_eq_some (huv : orient p.orientation p.u0 p.v0 x y = (u, v)) {i : Nat}
    (h : m.cell p x y = some i) :
    i < m.width * m.height ∧ ((i % m.width : Nat) : Int) = u / (m.bin : Int) ∧
      ((i / m.width : Nat) : Int) = v / (m.bin : Int) := by
  rw [PlacementMap.cell, huv, Option.ite_none_right_eq_some] at h
  obtain ⟨⟨hx0, hx, hy0, hy⟩, hi⟩ := h
  obtain ⟨cx, hcx⟩ := Int.eq_ofNat_of_zero_le hx0
  obtain ⟨cy, hcy⟩ := Int.eq_ofNat_of_zero_le hy0
  simp only [hcx, hcy, Int.toNat_natCast, Int.ofNat_lt, Option.some.injEq] at hx hy hi ⊢
  obtain ⟨hlt, hmod, hdiv⟩ := cellIndex_spec hx hy
  subst hi
  exact ⟨hlt, congrArg _ hmod, congrArg _ hdiv⟩

end Cell

/-- Settles O46: the roundings, ranges and clamps of the arithmetic, and the cell of a position in each orientation. -/
theorem pixelArithmetic : Obligations.PixelArithmetic := by
  unfold Obligations.PixelArithmetic
  refine ⟨fun p b d e gain t flat z hp hb hz hz' hd he hgain ht hflat => ?_, fun m p x y hbin => ?_⟩
  · intro dk q0 q k c0
    have hdk : dk ≤ 262140 := darkCharge_le hd he
    have hc0 : calibratedExact q flat k = c0 := (Int.fdiv_eq_ediv_of_nonneg _ (by decide)).symm
    refine ⟨rfl, hdk, by omega, by omega, rfl, ?_⟩
    rw [← hc0]
    exact calibrate_eq p b z dk flat k
  · intro u v
    have huv : orient p.orientation p.u0 p.v0 x y = (u, v) := by
      unfold orient
      cases ho : p.orientation <;> simp only [u, v, ho]
    have hfdiv (n : Int) : n.fdiv m.bin = n / (m.bin : Int) := Int.fdiv_eq_ediv_of_nonneg n (Int.natCast_nonneg _)
    rw [hfdiv, hfdiv]
    exact ⟨fun i => PlacementMap.cell_eq_some huv, PlacementMap.cell_eq_none_iff hbin huv⟩

end Sys2Proof.Machine

namespace Sys2Proof.Machine

/-! ### Reads delivered together (log 14) -/

/-- What neither a count of a delivery nor the port's lists show is as before the deliveries. -/
theorem State.deliverAll_unchanged {α : Type} {g : State → α} {s : State} (hport : ∀ f, g (s.onPort f) = g s)
    (hcount : ∀ (t : State) c, g (t.countFound c) = g t) (pick : Job → Bool) : g (s.deliverAll pick).2 = g s := by
  have kept (l : List (Job × Word × EccCondition)) (t : State) :
      g (l.foldl (fun u x => u.countFound x.2.2) t) = g t := by
    induction l generalizing t with
    | nil => rfl
    | cons x l ih => exact (ih _).trans (hcount t _)
  exact (kept _ _).trans (hport _)

/-! ### The end of the candidate's read (R121, R139) -/

/-- The unit and the data of a delivered beat of a descriptor. -/
def descriptorBeat (x : Job × Word × EccCondition) : Option (Nat × Word) :=
  match x.1 with
  | .descriptorRead k => some (k, x.2.1)
  | _ => none

/-- The copy of the candidate that its delivered beats make. -/
def State.descriptorCopy (s : State) : Descriptor :=
  Descriptor.ofBytes (bytesOf (gathered 32 ((s.deliverAll isDescriptorRead).1.filterMap descriptorBeat)))

/-- Whether a beat of the copy was uncorrectable. -/
def State.copyDamaged (s : State) : Bool :=
  (s.deliverAll isDescriptorRead).1.any fun x => decide (x.2.2 = .uncorrectable)

/-- The beats delivered and the attempt over. -/
def State.readEnded (s : State) : State :=
  ((s.deliverAll isDescriptorRead).2.onExpo fun e => { e with activation := none }).endTask .activation

section ReadEnded

variable (s : State)

@[simp] theorem State.readEnded_part : s.readEnded.part = s.part :=
  State.deliverAll_unchanged (g := State.part) (fun _ => rfl) State.countFound_part _

@[simp] theorem State.readEnded_bus : s.readEnded.bus = s.bus :=
  State.deliverAll_unchanged (g := State.bus) (fun _ => rfl) State.countFound_bus _

@[simp] theorem State.readEnded_prod : s.readEnded.prod = s.prod :=
  State.deliverAll_unchanged (g := State.prod) (fun _ => rfl) State.countFound_prod _

@[simp] theorem State.readEnded_loader : s.readEnded.loader = s.loader :=
  State.deliverAll_unchanged (g := State.loader) (fun _ => rfl) State.countFound_loader _

@[simp] theorem State.readEnded_tiles : s.readEnded.notice.tiles = s.notice.tiles :=
  State.deliverAll_unchanged (g := fun t => t.notice.tiles) (fun _ => rfl) State.countFound_tiles _

@[simp] theorem State.readEnded_records : s.readEnded.expo.records = s.expo.records :=
  State.deliverAll_unchanged (g := fun t => t.expo.records) (fun _ => rfl)
    (fun t c => congrArg ExposureCtl.records (t.countFound_expo c)) _

@[simp] theorem State.readEnded_ring : s.readEnded.expo.ring = s.expo.ring :=
  State.deliverAll_unchanged (g := fun t => t.expo.ring) (fun _ => rfl)
    (fun t c => congrArg ExposureCtl.ring (t.countFound_expo c)) _

@[simp] theorem State.readEnded_restartInHand : s.readEnded.restartInHand = s.restartInHand := by
  rw [State.restartInHand, State.readEnded_bus]
  rfl

@[simp] theorem State.readEnded_recordOf (bank : Nat) : s.readEnded.recordOf bank = s.recordOf bank := by
  rw [State.recordOf, State.readEnded_records]
  rfl

@[simp] theorem State.readEnded_product (i : Nat) : s.readEnded.product i = s.product i := by
  rw [State.product, State.readEnded_prod]
  rfl

@[simp] theorem State.readEnded_productEntry (i : Nat) : s.readEnded.productEntry i = s.productEntry i := by
  rw [State.productEntry, State.readEnded_loader]
  rfl

@[simp] theorem State.readEnded_nullTiles (d : Descriptor) (p : Plan) :
    s.readEnded.nullTiles d p = s.nullTiles d p := by
  have hhealth (i : Nat) : s.readEnded.health i = s.health i := by
    rw [State.health, State.readEnded_tiles]
    rfl
  simp only [State.nullTiles, State.nulling, hhealth]

end ReadEnded

theorem State.copyDamaged_iff (s : State) :
    s.copyDamaged = true ↔ ∃ x ∈ (s.deliverAll isDescriptorRead).1, x.2.2 = .uncorrectable := by
  simp only [State.copyDamaged, List.any_eq_true, decide_eq_true_eq]

/-- Every beat of the candidate's read has been granted and can be delivered, and the conditions of R121 hold still. -/
structure State.ReadEnds (s : State) (n : Nat) (discard : Bool) (c : RingEntry) : Prop where
  running : s.inReset = false
  planned : s.part = .planned
  noLoad : s.loader.pendingMark = false
  noRestart : s.restartInHand = false
  reading : s.expo.activation = some ⟨n, 32, discard⟩
  granted : s.asking isDescriptorRead = false
  deliverable : canEndAll isDescriptorRead [] s.port.inFlight = true
  listed : s.expo.ring.find? (fun r => decide (r.number = n)) = some c
  unmarked : c.mark = none
  pending : c.state = .pending

namespace State.ReadEnds

variable {s : State} {n : Nat} {discard : Bool} {c : RingEntry}

/-- With the conditions holding, only a RESTART taken during the read keeps the copy from being examined (R121,
R139). -/
theorem readDone_eq (h : s.ReadEnds n discard c) : s.readDone ⟨n, 32, discard⟩ =
    (if discard = true then s.readEnded else s.readEnded.examine c s.descriptorCopy s.copyDamaged).expoAsk := by
  have hlisted : s.readEnded.expo.ring.find? (fun r => decide (r.number = n)) = some c := by
    rw [State.readEnded_ring, h.listed]
  have guard : (s.readEnded.part ≠ .planned ∨ s.readEnded.loader.pendingMark = true ∨
      s.readEnded.restartInHand = true ∨ discard = true ∨ c.mark.isSome = true ∨ c.state ≠ .pending) ↔
      discard = true := by
    simp [h.planned, h.noLoad, h.noRestart, h.unmarked, h.pending]
  rw [← if_congr guard rfl rfl]
  unfold State.readEnded at hlisted
  simp only [State.readDone, hlisted]
  rfl

theorem exec_descriptorReadDone (h : s.ReadEnds n discard c) : exec .descriptorReadDone s =
    .next (if discard = true then s.readEnded else s.readEnded.examine c s.descriptorCopy s.copyDamaged).expoAsk := by
  have happens : exec .descriptorReadDone s = .next (s.readDone ⟨n, 32, discard⟩) := by
    change s.happen s.readDoneEvent = _
    simp [State.happen, State.readDoneEvent, h.running, h.reading, h.granted, h.deliverable, Config.descriptorUnits]
  rw [happens, h.readDone_eq]

end State.ReadEnds

/-! ### The checks of the copy (R122 to R126, R146) -/

/-- The descriptor of `c` is refused with its copy's fields (R125). -/
def State.refuseCopy (c : RingEntry) (d : Descriptor) (why : Rejection)
    (excluded : List (Nat × Exclusion)) (s : State) : State :=
  s.reject c.number d.tag d.product d.bank why excluded

section Examine

variable {s : State} {c : RingEntry} {d : Descriptor} {damaged : Bool} {p : Plan} {q : ProductEntry}

theorem State.examine_bad (h : damaged = true ∨ d.marker ≠ 0x364E5845) :
    s.examine c d damaged = s.refuseCopy c d .badDescriptor [] := if_pos h

section Readable

variable (hread : ¬(damaged = true ∨ d.marker ≠ 0x364E5845))
include hread

theorem State.examine_waits_bank (h : s.recordOf d.bank ≠ none) :
    s.examine c d damaged = s.onExpo fun e => { e with waitBank := true } :=
  (if_neg hread).trans (if_pos (Option.isSome_iff_ne_none.2 h))

variable (hbank : s.recordOf d.bank = none)
include hbank

theorem State.examine_waits_product (h : d.product < 4 ∧ (s.product d.product).mark ≠ .none) :
    s.examine c d damaged = s.onExpo fun e => { e with waitProduct := some d.product } :=
  (if_neg hread).trans <| (if_neg (by simp [hbank])).trans (if_pos h)

variable (hmark : ¬(d.product < 4 ∧ (s.product d.product).mark ≠ .none))
include hmark

theorem State.examine_not_open (h : s.productEntry d.product = none ∨ (s.product d.product).state ≠ .opened) :
    s.examine c d damaged = s.refuseCopy c d .notOpen [] := by
  refine (if_neg hread).trans <| (if_neg (by simp [hbank])).trans <| (if_neg hmark).trans ?_
  split
  · next hq => exact if_pos (h.resolve_left (by simp [hq]))
  · rfl

variable (hplan : s.loader.plan = some p) (hentry : s.productEntry d.product = some q)
  (hopen : (s.product d.product).state = .opened)
include hplan hentry hopen

/-- Of an OPEN product's candidate the tag, the fields and the tiles are looked at, in this order (R122 to R126). -/
theorem State.examine_opened : s.examine c d damaged =
    if ∃ r ∈ s.expo.records, r.tag = d.tag then s.refuseCopy c d .tagInUse []
    else if d.rangeOk p = false then s.refuseCopy c d .range []
    else if (s.nullTiles d p).1 = [] then s.refuseCopy c d .noSegments (s.nullTiles d p).2
    else s.activate d c.number (activatedRecord d c.number p q (s.nullTiles d p).1 (s.nullTiles d p).2) := by
  refine (if_neg hread).trans <| (if_neg (by simp [hbank])).trans <| (if_neg hmark).trans ?_
  rw [hplan, hentry]
  simp [hopen, State.refuseCopy]

end Readable

end Examine

/-! ### RANGE (R123) -/

theorem Descriptor.rangeOk_iff (d : Descriptor) (p : Plan) : d.rangeOk p = true ↔
    1 ≤ d.limit ∧ d.exposureTime ≤ 4194303 ∧ -1048576 ≤ d.du ∧ d.du ≤ 1048575 ∧
      -1048576 ≤ d.dv ∧ d.dv ≤ 1048575 ∧ (if d.bank = 0 then p.bank0 else p.bank1) ≠ 0 ∧ d.count ≤ 64 := by
  simp only [Descriptor.rangeOk, coordinate, Bool.and_eq_true, decide_eq_true_eq, and_assoc]
  rfl

/-! ### The tiles of a candidate (R124) -/

/-- What an ascending walk over indices keeps is in the order of its keys. -/
theorem pairwise_filterMap_range {α : Type} {f : Nat → Option α} {key : α → Nat}
    (hkey : ∀ i a, f i = some a → key a = i) (n : Nat) :
    ((List.range n).filterMap f).Pairwise fun x y => key x < key y :=
  List.Pairwise.filterMap f (fun i j hij a ha b hb => by rwa [hkey i a ha, hkey j b hb]) List.pairwise_lt_range

/-- The tiles in use with what excludes each. -/
def State.markedTiles (s : State) (d : Descriptor) (p : Plan) : List (Nat × Option Exclusion) :=
  (List.range p.tiles.length).filterMap fun i => (p.tiles[i]?).map fun t => (i, s.nulling d i t)

/-- R124's selection: with no tile listed all are. -/
theorem Descriptor.selects_iff (d : Descriptor) (i : Nat) : d.selects i = true ↔ d.count = 0 ∨ i ∈ d.tiles := by
  simp [Descriptor.selects]

section Tiles

variable {s : State} {d : Descriptor} {p : Plan} {i : Nat}

/-- The first reason of R124's order that applies. -/
theorem State.nulling_eq_some_iff {t : TileEntry} {why : Exclusion} : s.nulling d i t = some why ↔
    (¬d.selects i = true ∧ why = .notSelected) ∨
    (d.selects i = true ∧ s.health i = .quarantined ∧ why = .quarantined) ∨
    (d.selects i = true ∧ s.health i ≠ .quarantined ∧ t.withdrawn = true ∧ why = .withdrawn) := by
  cases hs : d.selects i with
  | false => simp [State.nulling, hs, @eq_comm _ why]
  | true =>
    by_cases hq : s.health i = .quarantined
    · simp [State.nulling, hs, hq, @eq_comm _ why]
    · cases hw : t.withdrawn <;> simp [State.nulling, hs, hq, hw, @eq_comm _ why]

/-- With none of the reasons, the tile is included. -/
theorem State.nulling_eq_none_iff {t : TileEntry} : s.nulling d i t = none ↔
    d.selects i = true ∧ s.health i ≠ .quarantined ∧ t.withdrawn = false := by
  rw [State.nulling]
  split_ifs <;> simp_all

theorem State.mem_markedTiles {x : Option Exclusion} :
    (i, x) ∈ s.markedTiles d p ↔ ∃ t, p.tiles[i]? = some t ∧ s.nulling d i t = x := by
  simp only [State.markedTiles, List.mem_filterMap, List.mem_range, Option.map_eq_some_iff, Prod.mk.injEq]
  constructor
  · rintro ⟨j, -, t, ht, rfl, hx⟩
    exact ⟨t, ht, hx⟩
  · rintro ⟨t, ht, hx⟩
    exact ⟨i, (List.getElem?_eq_some_iff.1 ht).1, t, ht, rfl, hx⟩

theorem State.markedTiles_ascending : (s.markedTiles d p).Pairwise fun x y => x.1 < y.1 :=
  pairwise_filterMap_range (fun i x hx => by
    obtain ⟨t, -, rfl⟩ := Option.map_eq_some_iff.1 hx
    rfl) _

theorem State.nullTiles_eq : s.nullTiles d p =
    ((s.markedTiles d p).filterMap fun x => if x.2.isNone then some x.1 else none,
      (s.markedTiles d p).filterMap fun x => x.2.map fun e => (x.1, e)) := rfl

theorem State.mem_nullTiles_included :
    i ∈ (s.nullTiles d p).1 ↔ ∃ t, p.tiles[i]? = some t ∧ s.nulling d i t = none := by
  rw [← State.mem_markedTiles, State.nullTiles_eq]
  simp

theorem State.mem_nullTiles_excluded {why : Exclusion} :
    (i, why) ∈ (s.nullTiles d p).2 ↔ ∃ t, p.tiles[i]? = some t ∧ s.nulling d i t = some why := by
  rw [← State.mem_markedTiles, State.nullTiles_eq]
  simp

theorem State.nullTiles_included_ascending : (s.nullTiles d p).1.Pairwise fun i j => i < j := by
  refine List.Pairwise.filterMap _ (fun x y hxy i hi j hj => ?_) State.markedTiles_ascending
  obtain ⟨-, hi⟩ := Option.ite_none_right_eq_some.1 hi
  obtain ⟨-, hj⟩ := Option.ite_none_right_eq_some.1 hj
  rwa [← Option.some.inj hi, ← Option.some.inj hj]

theorem State.nullTiles_excluded_ascending : (s.nullTiles d p).2.Pairwise fun x y => x.1 < y.1 := by
  refine List.Pairwise.filterMap _ (fun x y hxy i hi j hj => ?_) State.markedTiles_ascending
  obtain ⟨_, -, rfl⟩ := Option.map_eq_some_iff.1 hi
  obtain ⟨_, -, rfl⟩ := Option.map_eq_some_iff.1 hj
  exact hxy

end Tiles

/-! ### The record of an activated candidate (R68, R85, R126) -/

/-- The segments of the included tiles, ascending. -/
def Plan.segmentsOf (p : Plan) (included : List Nat) : List (Nat × SegmentEntry) :=
  (List.range p.segments.length).filterMap fun i =>
    (p.segments[i]?).bind fun e => if included.contains e.tile then some (i, e) else none

theorem Plan.mem_segmentsOf {p : Plan} {included : List Nat} {i : Nat} {e : SegmentEntry} :
    (i, e) ∈ p.segmentsOf included ↔ p.segments[i]? = some e ∧ e.tile ∈ included := by
  simp only [Plan.segmentsOf, List.mem_filterMap, List.mem_range, Option.bind_eq_some_iff,
    Option.ite_none_right_eq_some, List.contains_iff_mem, Option.some.injEq, Prod.mk.injEq]
  constructor
  · rintro ⟨j, -, x, hx, htile, rfl, rfl⟩
    exact ⟨hx, htile⟩
  · rintro ⟨he, htile⟩
    exact ⟨i, (List.getElem?_eq_some_iff.1 he).1, e, he, htile, rfl, rfl⟩

theorem Plan.segmentsOf_ascending (p : Plan) (included : List Nat) :
    (p.segmentsOf included).Pairwise fun x y => x.1 < y.1 :=
  pairwise_filterMap_range (fun i x hx => by
    obtain ⟨e, -, he⟩ := Option.bind_eq_some_iff.1 hx
    obtain ⟨-, he⟩ := Option.ite_none_right_eq_some.1 he
    exact congrArg Prod.fst (Option.some.inj he).symm) _

section Record

variable {d : Descriptor} {number : Nat} {p : Plan} {q : ProductEntry} {included : List Nat}
  {excluded : List (Nat × Exclusion)}

theorem activatedRecord_factors : (activatedRecord d number p q included excluded).factors =
    (p.segmentsOf included).map fun x => (x.1, combinedFactor x.2.gain d.transparency) := rfl

theorem activatedRecord_placed : (activatedRecord d number p q included excluded).map.segments =
    (p.segmentsOf included).map fun x =>
      ⟨x.1, x.2.orientation, x.2.x0 + d.du - q.px0, x.2.y0 + d.dv - q.py0⟩ := rfl

/-- Each included segment has its combined factor (R68). -/
theorem mem_activatedRecord_factors {i k : Nat} :
    (i, k) ∈ (activatedRecord d number p q included excluded).factors ↔
      ∃ e, p.segments[i]? = some e ∧ e.tile ∈ included ∧ k = combinedFactor e.gain d.transparency := by
  simp only [activatedRecord_factors, List.mem_map, Prod.exists, Plan.mem_segmentsOf, Prod.mk.injEq]
  constructor
  · rintro ⟨j, e, ⟨he, htile⟩, rfl, rfl⟩
    exact ⟨e, he, htile, rfl⟩
  · rintro ⟨e, he, htile, rfl⟩
    exact ⟨i, e, ⟨he, htile⟩, rfl, rfl⟩

/-- Each included segment is placed by the descriptor's offsets and the product's origin (R85). -/
theorem mem_activatedRecord_placed {x : PlacedSegment} :
    x ∈ (activatedRecord d number p q included excluded).map.segments ↔
      ∃ e, p.segments[x.segment]? = some e ∧ e.tile ∈ included ∧
        x = ⟨x.segment, e.orientation, e.x0 + d.du - q.px0, e.y0 + d.dv - q.py0⟩ := by
  simp only [activatedRecord_placed, List.mem_map, Prod.exists, Plan.mem_segmentsOf]
  constructor
  · rintro ⟨j, e, ⟨he, htile⟩, rfl⟩
    exact ⟨e, he, htile, rfl⟩
  · rintro ⟨e, he, htile, hx⟩
    exact ⟨x.segment, e, ⟨he, htile⟩, hx.symm⟩

theorem activatedRecord_factors_ascending :
    (activatedRecord d number p q included excluded).factors.Pairwise fun x y => x.1 < y.1 :=
  List.pairwise_map.2 (p.segmentsOf_ascending included)

theorem activatedRecord_placed_ascending :
    (activatedRecord d number p q included excluded).map.segments.Pairwise fun x y => x.segment < y.segment :=
  List.pairwise_map.2 (p.segmentsOf_ascending included)

end Record

/-- Settles O49: the command, check by check of the copy in the state that the read's end leaves, `t`; then the fields of
RANGE, the tiles and the record. -/
theorem candidateExamined : Obligations.CandidateExamined := by
  unfold Obligations.CandidateExamined
  refine ⟨?_, fun s d number p q => ⟨d.rangeOk_iff p, ?_, fun included excluded => ?_⟩⟩
  · intro s n discard c p q hrun hpart hload hrestart hreading hasking hends hlisted hmark hpending hplan
      got copy d damaged t refuse tiles
    have ends : s.ReadEnds n discard c :=
      ⟨hrun, hpart, hload, hrestart, hreading, hasking, hends, hlisted, hmark, hpending⟩
    have hdamaged : s.copyDamaged = true ↔ damaged := s.copyDamaged_iff
    have hrecord : t.recordOf d.bank = s.recordOf d.bank := s.readEnded_recordOf _
    have hproduct : t.product d.product = s.product d.product := s.readEnded_product _
    have hentry : t.productEntry d.product = s.productEntry d.product := s.readEnded_productEntry _
    have hrecords : t.expo.records = s.expo.records := s.readEnded_records
    have htiles : t.nullTiles d p = tiles := s.readEnded_nullTiles d p
    have hplan' : t.loader.plan = some p := s.readEnded_loader ▸ hplan
    have ended : exec .descriptorReadDone s =
        .next (if discard = true then t else t.examine c d s.copyDamaged).expoAsk := ends.exec_descriptorReadDone
    refine ⟨fun hdiscard => by rw [ended, if_pos hdiscard], fun hdiscard => ?_⟩
    have becomes {u : State} (hu : t.examine c d s.copyDamaged = u) : exec .descriptorReadDone s = .next u.expoAsk := by
      rw [ended, if_neg (Bool.eq_false_iff.1 hdiscard), hu]
    refine ⟨fun hbad => becomes (State.examine_bad (hbad.imp_left hdamaged.2)), fun hgood hmarker => ?_⟩
    have hread : ¬(s.copyDamaged = true ∨ d.marker ≠ 0x364E5845) := by simp [hdamaged, hgood, hmarker]
    refine ⟨fun hbound => becomes (State.examine_waits_bank hread (hrecord ▸ hbound)), fun hfree => ?_⟩
    have hbank : t.recordOf d.bank = none := hrecord.trans hfree
    refine ⟨fun hlt hwait => becomes (State.examine_waits_product hread hbank ⟨hlt, hproduct ▸ hwait⟩),
      fun hnone => ?_⟩
    have hunmarked : ¬(d.product < 4 ∧ (t.product d.product).mark ≠ .none) := by
      rw [hproduct]
      exact fun ⟨hlt, hwait⟩ => hnone.elim (Nat.not_le.2 hlt) hwait
    refine ⟨fun hclosed => becomes (State.examine_not_open hread hbank hunmarked ?_), fun hq hopen => ?_⟩
    · rwa [hentry, hproduct]
    have opened := State.examine_opened (c := c) hread hbank hunmarked hplan' (hentry.trans hq) (hproduct ▸ hopen)
    rw [hrecords, htiles] at opened
    refine ⟨fun hused => becomes (opened.trans (if_pos hused)), fun hunused => ?_⟩
    rw [if_neg (by simpa using hunused)] at opened
    refine ⟨fun hrange => becomes (opened.trans (if_pos hrange)), fun hrange hempty => ?_, fun hrange hsome => ?_⟩
    · rw [if_neg (by simp [hrange]), if_pos hempty] at opened
      exact becomes opened
    · rw [if_neg (by simp [hrange]), if_neg hsome] at opened
      exact becomes opened
  · refine ⟨fun i => ?_, fun i why => ?_, State.nullTiles_included_ascending, State.nullTiles_excluded_ascending⟩
    · simp only [State.mem_nullTiles_included, State.nulling_eq_none_iff, Descriptor.selects_iff]
    · simp only [State.mem_nullTiles_excluded, State.nulling_eq_some_iff, Descriptor.selects_iff]
  · exact ⟨rfl, fun i k => mem_activatedRecord_factors, fun x => mem_activatedRecord_placed,
      activatedRecord_factors_ascending, activatedRecord_placed_ascending⟩

end Sys2Proof.Machine

namespace Sys2Proof.Machine

/-! ### Little-endian fields (R203, R204) -/

theorem leBytes_succ (width n : Nat) :
    leBytes (width + 1) n = BitVec.ofNat 8 n :: leBytes width (n / 256) := by
  simp [leBytes, List.range_succ_eq_map, Nat.pow_succ', Nat.div_div_eq_div_mul]

@[simp] theorem leBytes_length (width n : Nat) : (leBytes width n).length = width := by
  simp [leBytes]

@[simp] theorem leSigned_length (width : Nat) (z : Int) : (leSigned width z).length = width :=
  leBytes_length _ _

theorem field_cons (b : Byte) (bs : List Byte) (width : Nat) :
    field (b :: bs) 0 (width + 1) = b.toNat + 256 * field bs 0 width := rfl

/-- A field that follows `pre` is read from its own bytes. -/
theorem field_append {pre : List Byte} {off : Nat} (h : pre.length = off) (bs : List Byte) (width : Nat) :
    field (pre ++ bs) off width = field bs 0 width :=
  (field_drop (pre ++ bs) off 0 width).symm.trans (by rw [List.drop_left' h])

theorem field_lt (bs : List Byte) (width : Nat) : field bs 0 width < 256 ^ width := by
  induction width generalizing bs with
  | zero => simp [field]
  | succ width ih =>
    cases bs with
    | nil => simp [field]
    | cons b bs =>
      have hb := b.isLt
      have hbs := ih bs
      rw [field_cons, Nat.pow_succ]
      omega

/-- A field reads the number written there, as far as its width holds it. -/
theorem field_leBytes (width n : Nat) (post : List Byte) :
    field (leBytes width n ++ post) 0 width = n % 256 ^ width := by
  induction width generalizing n with
  | zero => simp [field, Nat.mod_one]
  | succ width ih =>
    rw [leBytes_succ, List.cons_append, field_cons, ih, Nat.pow_succ', Nat.mod_mul, BitVec.toNat_ofNat]

/-- The bytes of a field's number are the bytes it was read from. -/
theorem leBytes_field {bs : List Byte} {width : Nat} (h : width ≤ bs.length) :
    leBytes width (field bs 0 width) = bs.take width := by
  induction width generalizing bs with
  | zero => rfl
  | succ width ih =>
    cases bs with
    | nil => simp at h
    | cons b bs =>
      have low : BitVec.ofNat 8 (b.toNat + 256 * field bs 0 width) = b :=
        BitVec.eq_of_toNat_eq (by simp [Nat.mod_eq_of_lt b.isLt])
      have high : (b.toNat + 256 * field bs 0 width) / 256 = field bs 0 width := by
        have := b.isLt
        omega
      rw [field_cons, leBytes_succ, low, high, ih (by simpa using h), List.take_succ_cons]

/-- A signed field is its unsigned number, balanced about 0. -/
theorem signedField_eq_bmod (bs : List Byte) (width : Nat) :
    signedField bs 0 width = Int.bmod (field bs 0 width) (256 ^ width : Nat) := by
  have hlt := field_lt bs width
  have hmod : (field bs 0 width : Int) % (256 ^ width : Nat) = field bs 0 width := by
    rw [← Int.natCast_mod, Nat.mod_eq_of_lt hlt]
  rw [Int.bmod_def, hmod, signedField]
  split <;> split <;> omega

/-- A signed field reads the number written there, when its width holds it. -/
theorem signedField_leSigned {width : Nat} {z : Int} (hlo : -(256 ^ width : Nat) ≤ z * 2)
    (hhi : z * 2 < (256 ^ width : Nat)) (post : List Byte) : signedField (leSigned width z ++ post) 0 width = z := by
  have hpos : (0 : Int) < (256 ^ width : Nat) := by exact_mod_cast Nat.pow_pos (by decide)
  have hcast : ((z % (256 ^ width : Nat)).toNat : Int) = z % (256 ^ width : Nat) :=
    Int.toNat_of_nonneg (Int.emod_nonneg z hpos.ne')
  rw [signedField_eq_bmod, leSigned, field_leBytes, Int.natCast_mod, hcast, Int.emod_bmod, Int.emod_bmod,
    Int.bmod_eq_of_le_mul_two hlo hhi]

/-- The two's complement bytes of a signed field's number are the bytes it was read from. -/
theorem leSigned_signedField {bs : List Byte} {width : Nat} (h : width ≤ bs.length) :
    leSigned width (signedField bs 0 width) = bs.take width := by
  have hmod : (signedField bs 0 width % (256 ^ width : Nat)).toNat = field bs 0 width := by
    rw [signedField_eq_bmod, Int.bmod_emod, ← Int.natCast_mod, Int.toNat_natCast,
      Nat.mod_eq_of_lt (field_lt bs width)]
  rw [leSigned, hmod, leBytes_field h]

/-! ### The bytes of one unit -/

@[simp] theorem bytesOf_length (w : Word) : (bytesOf [w]).length = 8 := rfl

/-- A unit filled with eight bytes holds them. -/
theorem bytesOf_ofBytes {bs : List Byte} (h : bs.length = 8) :
    bytesOf [Word.ofBytes fun j => bs.getD j 0#8] = bs := by
  refine List.ext_getElem (by rw [h, bytesOf_length]) fun j hj hj' => ?_
  simp only [bytesOf, List.flatMap_cons, List.flatMap_nil, List.append_nil, List.getElem_map, List.getElem_range]
  rw [Word.byte_ofBytes _ _ (h ▸ hj'), List.getD_eq_getElem _ _ hj']

theorem Word.ofBytes_bytesOf (w : Word) : (Word.ofBytes fun j => (bytesOf [w]).getD j 0#8) = w :=
  Word.ofBytes_byte w

/-! ### Cell records (R89, R92, Table 12-13) -/

theorem CellRecord.bytes_length (r : CellRecord) : r.bytes.length = 8 := by
  simp [CellRecord.bytes]

theorem CellRecord.bytesOf_word (r : CellRecord) : bytesOf [r.word] = r.bytes :=
  bytesOf_ofBytes r.bytes_length

/-- The record a unit reads as has the unit's bytes. -/
theorem CellRecord.bytes_ofWord (w : Word) : (CellRecord.ofWord w).bytes = bytesOf [w] := by
  have sum : leSigned 4 (signedField (bytesOf [w]) 0 4) = (bytesOf [w]).take 4 :=
    leSigned_signedField (by simp)
  have hits : leBytes 2 (field (bytesOf [w]) 4 2) = ((bytesOf [w]).drop 4).take 2 := by
    rw [← leBytes_field (by simp), field_drop]
  have tag : leBytes 1 (field (bytesOf [w]) 7 1) = ((bytesOf [w]).drop 7).take 1 := by
    rw [← leBytes_field (by simp), field_drop]
  rw [CellRecord.ofWord, CellRecord.bytes, sum, hits, tag]
  rfl

/-- Settles O57: the record's unit holds its bytes, so each field reads what was written in it; and the record a unit
reads as writes the unit's own bytes again. -/
theorem cellRecordRoundTrip : Obligations.CellRecordRoundTrip := by
  refine ⟨fun r hlo hhi hhits htag => ?_, fun w => ?_⟩
  · have sum : signedField r.bytes 0 4 = r.sum := by
      simp only [CellRecord.bytes, List.append_assoc]
      exact signedField_leSigned (by omega) (by omega) _
    have hits : field r.bytes 4 2 = r.hits := by
      simp only [CellRecord.bytes, List.append_assoc]
      rw [field_append (leSigned_length 4 _), field_leBytes, Nat.mod_eq_of_lt (by omega)]
    have flags : r.word.byte 6 = r.flags := Word.byte_ofBytes _ 6 (by decide)
    have tag : field r.bytes 7 1 = r.tag := by
      rw [CellRecord.bytes, field_append (by simp), ← List.append_nil (leBytes 1 _), field_leBytes,
        Nat.mod_eq_of_lt (by omega)]
    rw [CellRecord.ofWord, r.bytesOf_word, sum, hits, flags, tag]
  · rw [CellRecord.word, CellRecord.bytes_ofWord, Word.ofBytes_bytesOf]

end Sys2Proof.Machine

namespace Sys2Proof.Machine

/-! ### The arbiter's choice (O37) -/

theorem State.rank_mem (s : State) (j : Job) : s.rank j ∈ [1, 2, 3, 4, 5, 6] := by
  cases j with
  | writeBack i => simp only [State.rank]; split <;> decide
  | _ => simp [State.rank]

theorem State.dirtyCount_eq (s : State) :
    s.dirtyCount = s.merge.entries.countP fun e => e.any fun x => decide (x.state = .dirty) :=
  List.countP_congr fun e _ => by cases e <;> rfl

/-- The head of a rank's list is the oldest ask of the rank. -/
theorem State.headOf_eq_some_iff {s : State} {rank : Nat} {a : Ask} : s.headOf rank = some a ↔
    s.rank a.job = rank ∧ ∃ l1 l2, s.port.asks = l1 ++ a :: l2 ∧ ∀ x ∈ l1, s.rank x.job ≠ rank := by
  simp [State.headOf, List.find?_eq_some_iff_append]

theorem State.headOf_eq_none_iff {s : State} {rank : Nat} :
    s.headOf rank = none ↔ ∀ x ∈ s.port.asks, s.rank x.job ≠ rank := by
  simp [State.headOf]

/-- No ask waits at a rank above the highest (R183). -/
theorem State.highest_some {s : State} {a : Ask} (h : s.highest = some a) :
    s.headOf (s.rank a.job) = some a ∧ ∀ x ∈ s.port.asks, s.rank a.job ≤ s.rank x.job := by
  obtain ⟨above, rank, below, hranks, hhead, habove⟩ := List.findSome?_eq_some_iff.1 h
  obtain rfl := (State.headOf_eq_some_iff.1 hhead).1
  refine ⟨hhead, fun x hx => ?_⟩
  by_contra hlt
  have hmem : s.rank x.job ∈ above ++ s.rank a.job :: below := hranks ▸ s.rank_mem x.job
  have rising : (above ++ s.rank a.job :: below).Pairwise (· < ·) := by rw [← hranks]; decide
  rcases List.mem_append.1 hmem with hup | hdown
  · exact State.headOf_eq_none_iff.1 (habove _ hup) x hx rfl
  · rcases List.mem_cons.1 hdown with heq | hdown
    · omega
    · exact hlt ((List.pairwise_cons.1 (List.pairwise_append.1 rising).2.1).1 _ hdown).le

theorem State.highest_none_iff {s : State} : s.highest = none ↔ s.port.asks = [] := by
  refine ⟨fun h => List.eq_nil_iff_forall_not_mem.2 fun x hx => ?_, fun h => ?_⟩
  · exact State.headOf_eq_none_iff.1 (List.findSome?_eq_none_iff.1 h _ (s.rank_mem x.job)) x hx rfl
  · exact List.findSome?_eq_none_iff.2 fun rank _ => State.headOf_eq_none_iff.2 (by simp [h])

/-- The three ways to the arbiter's choice: the hold (R185), the highest rank (R183), and fairness (R184). -/
theorem State.nextAsk_cases {s : State} {a : Ask} (h : s.nextAsk = some a) :
    (s.port.hold = true ∧ s.headOf 2 = some a) ∨
    (s.port.hold = false ∧ s.highest = some a ∧
      (s.rank a.job = 2 → s.port.fairness = 8 → ∀ x ∈ s.port.asks, s.rank x.job ≠ 3)) ∨
    (s.port.hold = false ∧ s.port.fairness = 8 ∧ s.headOf 3 = some a ∧ ∃ c, s.highest = some c ∧ s.rank c.job = 2) := by
  unfold State.nextAsk at h
  split at h
  · next hh => exact .inl ⟨hh, h⟩
  next hh =>
  replace hh := Bool.eq_false_iff.2 hh
  split at h
  · cases h
  next c hc =>
  split at h
  next turn =>
    rcases h3 : s.headOf 3 with _ | x
    · rw [h3] at h
      obtain rfl := Option.some.inj h
      exact .inr (.inl ⟨hh, hc, fun _ _ => State.headOf_eq_none_iff.1 h3⟩)
    · rw [h3] at h
      obtain rfl := Option.some.inj h
      exact .inr (.inr ⟨hh, turn.2, rfl, c, hc, turn.1⟩)
  next turn =>
    obtain rfl := Option.some.inj h
    exact .inr (.inl ⟨hh, hc, fun h2 h8 => absurd ⟨h2, h8⟩ turn⟩)

theorem State.nextAsk_none_iff (s : State) :
    s.nextAsk = none ↔ if s.port.hold then ∀ x ∈ s.port.asks, s.rank x.job ≠ 2 else s.port.asks = [] := by
  unfold State.nextAsk
  split
  · exact State.headOf_eq_none_iff
  · rw [← State.highest_none_iff]
    cases s.highest with
    | none => simp
    | some a => dsimp only; split <;> simp

/-- The choice is the head of its rank's list. -/
theorem State.nextAsk_head {s : State} {a : Ask} (h : s.nextAsk = some a) : s.headOf (s.rank a.job) = some a := by
  rcases State.nextAsk_cases h with ⟨-, h2⟩ | ⟨-, hc, -⟩ | ⟨-, -, h3, -⟩
  · exact (State.headOf_eq_some_iff.1 h2).1 ▸ h2
  · exact (State.highest_some hc).1
  · exact (State.headOf_eq_some_iff.1 h3).1 ▸ h3

/-- Settles O37: the ranks are the arms of `State.rank`, and the choice is made in one of the three ways of
`State.nextAsk_cases`. -/
theorem arbiterChoice : Obligations.ArbiterChoice := by
  intro s
  refine ⟨⟨fun i => ?_, by simp [State.rank]⟩, fun a h => ⟨?_, ?_⟩, s.nextAsk_none_iff⟩
  · rw [← s.dirtyCount_eq]
    rfl
  · exact (State.headOf_eq_some_iff.1 (State.nextAsk_head h)).2
  · rcases State.nextAsk_cases h with ⟨hh, h2⟩ | ⟨hh, hc, h23⟩ | ⟨hh, h8, h3, c, hc, hc2⟩
    · simp [hh, (State.headOf_eq_some_iff.1 h2).1]
    · have least := (State.highest_some hc).2
      refine ⟨by simp [hh], fun _ => .inl least, fun _ h8 ⟨x, hx, hx3⟩ h1 => ?_, fun _ _ => least⟩
      have positive : 1 ≤ s.rank a.job := (by decide : ∀ r ∈ [1, 2, 3, 4, 5, 6], 1 ≤ r) _ (s.rank_mem a.job)
      have ha : s.rank a.job ≠ 1 := by
        obtain ⟨-, l1, l2, hl, -⟩ := State.headOf_eq_some_iff.1 (State.highest_some hc).1
        exact h1 a (by simp [hl])
      have hle := least x hx
      have h2 : s.rank a.job ≠ 2 := fun h2 => h23 h2 h8 x hx hx3
      omega
    · have rank3 := (State.headOf_eq_some_iff.1 h3).1
      exact ⟨by simp [hh], fun _ => .inr ⟨rank3, h8, hc2 ▸ (State.highest_some hc).2⟩, fun _ _ _ _ => rank3,
        fun _ hn => absurd h8 hn⟩

end Sys2Proof.Machine

namespace Sys2Proof.Machine

/-! ### Entries set and dropped (O18) -/

theorem State.entry_lt {s : State} {i : Nat} {e : Entry} (he : s.entry i = some e) : i < s.merge.entries.length := by
  by_contra hi
  rw [State.entry, List.getD_eq_default _ _ (Nat.le_of_not_lt hi)] at he
  cases he

/-- An entry reads as it was last set. -/
theorem State.entry_setEntry_same {s : State} {i : Nat} (hi : i < s.merge.entries.length) (v : Option Entry) :
    (s.setEntry i v).entry i = v := by
  simp [State.entry, State.setEntry, hi]

theorem State.entry_setEntry_other (s : State) {i j : Nat} (hj : j ≠ i) (v : Option Entry) :
    (s.setEntry i v).entry j = s.entry j := by
  simp [State.entry, State.setEntry, List.getD_eq_getElem?_getD, List.getElem?_set_ne hj.symm]

theorem isWriteBackOf_eq (i : Nat) (j : Job) : isWriteBackOf i j = decide (j = .writeBack i) := by
  cases j <;> simp [isWriteBackOf]

/-- A dropped entry is free. -/
theorem State.entry_dropEntry_same (s : State) (i : Nat) : (s.dropEntry i).entry i = none := by
  change (s.setEntry i none).entry i = none
  rcases Nat.lt_or_ge i s.merge.entries.length with hi | hi
  · exact State.entry_setEntry_same hi none
  · exact List.getD_eq_default _ _ (by simpa [State.setEntry] using hi)

theorem State.entry_dropEntry_other (s : State) {i j : Nat} (hj : j ≠ i) : (s.dropEntry i).entry j = s.entry j :=
  s.entry_setEntry_other hj none

/-- Which entries stand after some have been dropped. -/
theorem State.entry_foldl_dropEntry (out : List Nat) (s : State) (j : Nat) :
    (out.foldl (fun t i => t.dropEntry i) s).entry j = if j ∈ out then none else s.entry j := by
  induction out generalizing s with
  | nil => rfl
  | cons i out ih =>
    rw [List.foldl_cons, ih]
    by_cases hj : j = i
    · simp [hj, State.entry_dropEntry_same]
    · simp [hj, State.entry_dropEntry_other]

theorem State.mem_order_foldl_dropEntry (out : List Nat) (s : State) (j : Nat) :
    j ∈ (out.foldl (fun t i => t.dropEntry i) s).merge.order ↔ j ∈ s.merge.order ∧ j ∉ out := by
  induction out generalizing s with
  | nil => simp
  | cons i out ih =>
    have kept : j ∈ (s.dropEntry i).merge.order ↔ j ∈ s.merge.order ∧ j ≠ i := by
      change j ∈ s.merge.order.filter (fun k => !decide (k = i)) ↔ _
      simp
    rw [List.foldl_cons, ih, kept, List.mem_cons]
    tauto

/-- The entries that `State.dropEntries` drops: a number beyond the entries names none. -/
theorem State.mem_picked_iff (s : State) (pick : Entry → Bool) (j : Nat) :
    (j ∈ (List.range s.merge.entries.length).filter fun i => (s.entry i).any pick) ↔ (s.entry j).any pick = true := by
  rw [List.mem_filter, List.mem_range]
  refine and_iff_right_of_imp fun h => ?_
  obtain ⟨e, he, -⟩ := (Option.any_eq_true _ _).1 h
  exact State.entry_lt he

/-- Settles O18: one entry by the definition of `State.dropEntry`, several by the order in which they are dropped. -/
theorem entryDropped : Obligations.EntryDropped := by
  refine ⟨fun s i => ⟨s.entry_dropEntry_same i, fun j hj => s.entry_dropEntry_other hj, ?_⟩, fun s pick j => ⟨?_, ?_⟩⟩
  · simp [State.dropEntry, State.withdraw, State.setEntry, State.onMerge, State.onPort, isWriteBackOf_eq]
  · simp only [State.dropEntries, State.entry_foldl_dropEntry, State.mem_picked_iff]
  · simp only [State.dropEntries, State.mem_order_foldl_dropEntry, State.mem_picked_iff, Bool.not_eq_true]

end Sys2Proof.Machine

namespace Sys2Proof.Machine

/-! ### Beats that meet the merge buffer (O16, O17) -/

/-- A beat that the merge buffer has nothing to do with is carried out against memory. -/
def State.carryOut (b : BusBeat) (s : State) : State := if b.write then s.askStore false b else s.askRead b

theorem State.carryOut_read (s : State) {b : BusBeat} (h : b.write = false) : s.carryOut b = s.askRead b := by
  simp [State.carryOut, h]

theorem State.carryOut_write (s : State) {b : BusBeat} (h : b.write = true) : s.carryOut b = s.askStore false b := by
  simp [State.carryOut, h]

theorem State.Takes.exec_routed {s : State} {c : Instr} {b : BusBeat} (h : s.Takes b) (hc : beatOf c = some b)
    (hl : b.locked = false) (hr : s.route b.unit ≠ .beyond) : exec c s = .next (s.routeBeat b).settle := by
  rw [exec_beat hc, h.routed hl hr]

section CellRegion

variable {s : State} {b : BusBeat} {p : Nat}

theorem State.routeBeat_cell (h : s.route b.unit = .cell p) : s.routeBeat b = s.cellRegion p b := by
  simp only [State.routeBeat, h]

/-- The cells of an EMPTY or CLEARING product are plain memory (R109). -/
theorem State.cellRegion_plain (h : (s.product p).state = .empty ∨ (s.product p).state = .clearing) :
    s.cellRegion p b = s.carryOut b := by
  rcases h with h | h <;> simp only [State.cellRegion, h] <;> rfl

/-- A read, or a write with a byte enabled, of an OPEN product's cell meets its entry (R110, R111). -/
theorem State.cellRegion_opened (h : (s.product p).state = .opened) (hb : b.write = false ∨ b.enables ≠ 0#8) :
    s.cellRegion p b = s.cellBeat b := by
  rcases hb with hb | hb <;> simp [State.cellRegion, h, hb]

/-- A write with no byte enabled leaves the entry (R111). -/
theorem State.cellRegion_opened_nothing (h : (s.product p).state = .opened) (hw : b.write = true)
    (he : b.enables = 0#8) : s.cellRegion p b = s.finishWrite b := by
  simp [State.cellRegion, h, hw, he]

/-- The cells of a FROZEN or RENDERING product are read from memory, and protected (R109, R161). -/
theorem State.cellRegion_fixed (h : (s.product p).state = .frozen ∨ (s.product p).state = .rendering) :
    s.cellRegion p b = if b.write then s.protectedWrite b else s.askRead b := by
  rcases h with h | h <;> simp only [State.cellRegion, h]

end CellRegion

/-! #### A beat and the entry of its cell (R110, R111, R113) -/

section CellBeat

variable {s : State} {b : BusBeat} {k : Nat} {e : Entry}

theorem State.cellBeat_unheld (h : s.entryOf b.unit = none) : s.cellBeat b = s.carryOut b := by
  simp only [State.cellBeat, h]
  rfl

/-- A read that is not locked waits for a fill, and is served from any other entry. -/
theorem State.cellBeat_read (hk : s.entryOf b.unit = some k) (he : s.entry k = some e) (hw : b.write = false)
    (hl : b.locked = false) :
    s.cellBeat b = if e.state = .filling then s.holdCell b else s.respond b (.data e.record.word) := by
  simp [State.cellBeat, hk, he, hw, hl]

/-- A write or a locked read drops a CLEAN entry. -/
theorem State.cellBeat_clean (hk : s.entryOf b.unit = some k) (he : s.entry k = some e)
    (hb : b.write = true ∨ b.locked = true) (hs : e.state = .clean) : s.cellBeat b = (s.dropEntry k).carryOut b := by
  rcases hb with hb | hb <;> simp [State.cellBeat, hk, he, hb, hs, State.carryOut]

/-- A write drops a DIRTY entry with no write outstanding, and its contributions are lost (R114). -/
theorem State.cellBeat_overwrites (hk : s.entryOf b.unit = some k) (he : s.entry k = some e) (hw : b.write = true)
    (hl : b.locked = false) (hs : e.state = .dirty) (ho : e.writeOutstanding = false) :
    s.cellBeat b = ((s.dropEntry k).countOverwritten).carryOut b := by
  simp [State.cellBeat, hk, he, hw, hl, hs, ho, State.carryOut]

/-- Any of these beats frees a FILLING entry whose fill has not been asked (R97). -/
theorem State.cellBeat_frees (hk : s.entryOf b.unit = some k) (he : s.entry k = some e)
    (hb : b.write = true ∨ b.locked = true) (hs : e.state = .filling) (ha : e.fillAsked = false) :
    s.cellBeat b = (s.freeUnasked k e.addr).carryOut b := by
  rcases hb with hb | hb <;> simp [State.cellBeat, hk, he, hb, hs, ha, State.carryOut]

/-- A write or a locked read is held on an entry that it cannot yet take from the buffer. -/
theorem State.cellBeat_holds (hk : s.entryOf b.unit = some k) (he : s.entry k = some e)
    (hb : b.write = true ∨ b.locked = true)
    (h : e.state = .writing ∨ (e.state = .filling ∧ e.fillAsked = true) ∨
      (e.state = .dirty ∧ (e.writeOutstanding = true ∨ b.locked = true))) : s.cellBeat b = s.holdCell b := by
  have access : (!b.write && !b.locked) = false := by rcases hb with hb | hb <;> simp [hb]
  rcases h with hs | ⟨hs, ha⟩ | ⟨hs, ha⟩
  · simp [State.cellBeat, hk, he, access, hs]
  · simp [State.cellBeat, hk, he, access, hs, ha]
  · have waits : (e.writeOutstanding || b.locked) = true := by simpa using ha
    simp [State.cellBeat, hk, he, access, hs, waits]

end CellBeat

/-- A read is carried out against memory where the buffer does not hold its cell or the product is not OPEN (R109,
R161). -/
theorem State.cellRegion_read_memory {s : State} {b : BusBeat} {p : Nat} (hw : b.write = false)
    (h : (s.product p).state ≠ .opened ∨ s.entryOf b.unit = none) : s.cellRegion p b = s.askRead b := by
  have fixed : (if b.write then s.protectedWrite b else s.askRead b) = s.askRead b := by simp [hw]
  cases hs : (s.product p).state with
  | empty => exact (State.cellRegion_plain (.inl hs)).trans (s.carryOut_read hw)
  | clearing => exact (State.cellRegion_plain (.inr hs)).trans (s.carryOut_read hw)
  | opened =>
    rw [State.cellRegion_opened hs (.inl hw), State.cellBeat_unheld (h.resolve_left (absurd hs)), s.carryOut_read hw]
  | frozen => exact (State.cellRegion_fixed (.inl hs)).trans fixed
  | rendering => exact (State.cellRegion_fixed (.inr hs)).trans fixed

/-- Settles O16: the branches of `State.cellRegion` and `State.cellBeat` for a read. -/
theorem cellReads : Obligations.CellReads := by
  intro s m a i n p ht hroute b
  have read : exec (.cellReadBeat m a i n) s = .next (s.cellRegion p b).settle := by
    rw [ht.exec_routed rfl rfl (by simp [hroute]), State.routeBeat_cell hroute]
  rw [read]
  refine ⟨fun k e hopen hk he => ?_, fun hmem => ?_⟩
  · rw [State.cellRegion_opened hopen (.inl rfl), State.cellBeat_read hk he rfl rfl]
    exact ⟨fun hs => by rw [if_neg hs], fun hs => by rw [if_pos hs]; rfl⟩
  · rw [State.cellRegion_read_memory rfl hmem]

/-! #### An entry freed before its fill is asked (R97, log 32) -/

/-- The pixel of a freed entry waits to miss again. -/
def Applying.missAgain (a : Applying) : Applying :=
  { a with pixel := a.pixel.map fun w => if w.2 = .fill then (w.1, .access) else w }

def State.missAgain (s : State) : State := s.onPipe fun p => { p with applying := p.applying.map Applying.missAgain }

theorem State.onPipe_eq_self {s : State} {f : Pipeline → Pipeline} (h : f s.pipe = s.pipe) : s.onPipe f = s := by
  rw [State.onPipe, h]

theorem State.missAgain_fill {s : State} {px : Pixel} (h : s.waitingPixel = some (px, .fill)) :
    s.missAgain = s.setWaiting (some (px, .access)) := by
  obtain ⟨a, ha, hpx⟩ := Option.bind_eq_some_iff.1 h
  simp [State.missAgain, State.setWaiting, State.onPipe, ha, Applying.missAgain, hpx]

theorem State.missAgain_other {s : State} (h : ∀ px, s.waitingPixel ≠ some (px, .fill)) : s.missAgain = s := by
  have same : s.pipe.applying.map Applying.missAgain = s.pipe.applying := by
    rcases ha : s.pipe.applying with _ | a
    · rfl
    refine congrArg some ?_
    have kept : (a.pixel.map fun w => if w.2 = .fill then (w.1, Waiting.access) else w) = a.pixel := by
      rcases hpx : a.pixel with _ | ⟨px, w⟩
      · rfl
      have other : w ≠ .fill := fun hw => h px (by simp [State.waitingPixel, ha, hpx, hw])
      simp [other]
    exact congrArg (fun x => { a with pixel := x }) kept
  exact State.onPipe_eq_self (congrArg (fun x => { s.pipe with applying := x }) same)

theorem State.foldl_askRead (out : List BusBeat) (s : State) : out.foldl (fun t b => t.askRead b) s =
    s.onPort fun p => { p with asks := p.asks ++ out.map fun b => ⟨.busRead b, b.unit, none⟩ } := by
  induction out generalizing s with
  | nil => simp [State.onPort]
  | cons b out ih =>
    rw [List.foldl_cons, ih]
    simp [State.askRead, State.ask, State.onPort]

theorem State.freeUnasked_eq (s : State) (i addr : Nat) :
    s.freeUnasked i addr = ((s.dropEntry i).missAgain).releaseReads addr := by
  unfold State.freeUnasked
  dsimp only
  congr 1
  split
  · next px h => exact (State.missAgain_fill h).symm
  · next h => exact (State.missAgain_other h).symm

/-- Settles O17: the branches of `State.cellRegion` and `State.cellBeat` for a write, and an entry freed. -/
theorem cellWrites : Obligations.CellWrites := by
  refine ⟨?_, ?_⟩
  · intro s m a i n p en d ht hroute b held
    have write {t : State} (h : s.cellRegion p b = t) : exec (.cellWriteBeat m a i n en d) s = .next t.settle := by
      rw [ht.exec_routed rfl rfl (by simp [hroute]), State.routeBeat_cell hroute, h]
    refine ⟨fun hopen hen => write ?_, fun hopen hen hk => write ?_, fun k e hopen hen hk he => ?_, fun hs => write ?_⟩
    · exact (State.cellRegion_opened_nothing hopen rfl hen).trans (s.finishWrite_unpaired rfl)
    · rw [State.cellRegion_opened hopen (.inr hen), State.cellBeat_unheld hk]
      rfl
    · have meets := State.cellRegion_opened (b := b) hopen (.inr hen)
      have holds h := write (meets.trans (State.cellBeat_holds hk he (.inl rfl) h))
      refine ⟨fun hs => write ?_, fun hs ho => write ?_, fun hs ho => holds (.inr (.inr ⟨hs, .inl ho⟩)),
        fun hs => holds (.inl hs), fun hs ha => holds (.inr (.inl ⟨hs, ha⟩)), fun hs ha => write ?_⟩
      · exact meets.trans (State.cellBeat_clean hk he (.inl rfl) hs)
      · exact meets.trans (State.cellBeat_overwrites hk he rfl rfl hs ho)
      · exact meets.trans (State.cellBeat_frees hk he (.inl rfl) hs ha)
    · exact State.cellRegion_plain hs
  · intro s i addr here freed
    rw [State.freeUnasked_eq, State.releaseReads, State.foldl_askRead]
    rfl

end Sys2Proof.Machine

namespace Sys2Proof.Machine

/-! ### Write-backs (O42) -/

theorem eligible_iff {o : Option Entry} :
    eligible o = true ↔ ∃ e, o = some e ∧ e.state = .dirty ∧ e.writeOutstanding = false := by
  cases o <;> simp [eligible]

/-! #### The choice (R100, R113) -/

/-- The entry whose write a held beat forces (R113). -/
def State.forcedBy (s : State) (b : BusBeat) : Option Nat :=
  if b.locked then (s.entryOf b.unit).filter fun i => eligible (s.entry i) else none

theorem State.forcedWrite_eq (s : State) : s.forcedWrite = s.bus.heldCells.findSome? s.forcedBy := rfl

theorem State.forcedBy_eq_some_iff {s : State} {b : BusBeat} {i : Nat} : s.forcedBy b = some i ↔
    b.locked = true ∧ s.entryOf b.unit = some i ∧ eligible (s.entry i) = true := by
  simp [State.forcedBy, Option.filter_eq_some_iff]

theorem State.forcedBy_eq_none_iff {s : State} {b : BusBeat} : s.forcedBy b = none ↔
    ∀ i, ¬(b.locked = true ∧ s.entryOf b.unit = some i ∧ eligible (s.entry i) = true) := by
  simp only [Option.eq_none_iff_forall_ne_some, ne_eq, State.forcedBy_eq_some_iff]

/-- With no write asked, the engine's choice is asked. -/
theorem State.exec_writeBackChoice_some {s : State} {i : Nat} {e : Entry} (hr : s.inReset = false)
    (ha : s.asking isWriteBack = false) (hi : s.writeBackPick = some i) (he : s.entry i = some e) :
    exec .writeBackChoice s = .next ((s.setEntry i (some { e with writeAsked := true })).ask
      ⟨.writeBack i, e.addr, some ⟨0xFF#8, e.record.word⟩⟩) := by
  change s.happen s.choiceEvent = _
  simp [State.happen, hr, State.choiceEvent, ha, hi, State.askWriteBack, he]

theorem State.exec_writeBackChoice_none {s : State} (h : s.asking isWriteBack = true ∨ s.writeBackPick = none) :
    exec .writeBackChoice s = .next s := by
  change s.happen s.choiceEvent = _
  rcases h with h | h <;> simp [State.happen, State.choiceEvent, h]

section Pick

variable {s : State} (hf : s.forcedWrite = none)

theorem State.writeBackPick_forced {i : Nat} (h : s.forcedWrite = some i) : s.writeBackPick = some i := by
  simp only [State.writeBackPick, h]

include hf

/-- An allocation that waits, or a high dirty count outside a flush, takes the least recently used entry. -/
theorem State.writeBackPick_lru (h : s.allocationWaits = true ∨ (32 ≤ s.dirtyCount ∧ s.flushDraws = false)) :
    s.writeBackPick = s.merge.order.find? fun i => eligible (s.entry i) := by
  rcases h with h | ⟨hd, h⟩
  · simp [State.writeBackPick, hf, h]
  · simp [State.writeBackPick, hf, h, Config.dirtyHigh, hd]

/-- A flush in progress draws on its own set (log 23). -/
theorem State.writeBackPick_flush (ha : s.allocationWaits = false) (h : s.flushDraws = true) :
    s.writeBackPick = s.merge.order.find? fun i => eligible (s.entry i) && s.inFlush i := by
  simp [State.writeBackPick, hf, ha, h]

theorem State.writeBackPick_idle (ha : s.allocationWaits = false) (h : s.flushDraws = false)
    (hd : s.dirtyCount < 32) : s.writeBackPick = none := by
  simp [State.writeBackPick, hf, ha, h, Config.dirtyHigh, Nat.not_le.2 hd]

/-- The engine chooses none but eligible entries. -/
theorem State.writeBackPick_none (h : ∀ j ∈ s.merge.order, eligible (s.entry j) = false) : s.writeBackPick = none := by
  have none_eligible : (s.merge.order.find? fun i => eligible (s.entry i)) = none :=
    List.find?_eq_none.2 fun j hj => Bool.eq_false_iff.1 (h j hj)
  cases ha : s.allocationWaits with
  | true => exact (State.writeBackPick_lru hf (.inl ha)).trans none_eligible
  | false =>
    cases hd : s.flushDraws with
    | true =>
      rw [State.writeBackPick_flush hf ha hd, List.find?_eq_none]
      exact fun j hj => by simp [h j hj]
    | false =>
      rcases Nat.lt_or_ge s.dirtyCount 32 with hlow | hhigh
      · exact State.writeBackPick_idle hf ha hd hlow
      · exact (State.writeBackPick_lru hf (.inr ⟨hhigh, hd⟩)).trans none_eligible

end Pick

theorem State.flushDraws_of_inFlush {s : State} {i : Nat} (h : s.inFlush i = true) : s.flushDraws = true := by
  obtain ⟨f, hf, h⟩ := List.any_eq_true.1 h
  exact List.any_eq_true.2 ⟨f, hf, (Bool.and_eq_true_iff.1 h).1⟩

/-! #### The completion (R102, R103) -/

theorem State.writeBackDone_eq {s : State} {i : Nat} {e : Entry} (he : s.entry i = some e) :
    s.writeBackDone i = (s.setEntry i (some (if e.state = .writing then { e with state := .clean }
      else { e with writeOutstanding := false }))).onMerge fun m => { m with
        flushes := m.flushes.map fun f =>
          { f with members := f.members.map fun x =>
              if x.entry = i ∧ x.granted = true then { x with settled := true } else x } } := by
  simp only [State.writeBackDone, he]
  split <;> rfl

theorem State.exec_writeBackComplete {s : State} {which unit i : Nat} {after : StoredUnit}
    {found : Option EccCondition} {rest : List Access}
    (h : s.Completes isWriteBack which (.writeBack i) unit after found rest) :
    exec (.writeBackComplete which) s = .next ((s.landed unit after found rest).writeBackDone i).settle := by
  change s.happen (s.writeBackEvent which) = _
  simp [State.happen, h.running, State.writeBackEvent, h.landNth]

/-- Settles O42: the engine's choice by `State.writeBackPick`, the forced write by the reads held, and the
completion. -/
theorem writeBacks : Obligations.WriteBacks := by
  refine ⟨?_, ?_, ?_⟩
  · intro s hr ha hf
    refine ⟨?_, fun h => ?_, fun hal hd h => ?_⟩
    · intro l1 i l2 e ho he hs hw t
      have chosen (h : s.writeBackPick = some i) : exec .writeBackChoice s = .next t :=
        State.exec_writeBackChoice_some hr ha h he
      have able : eligible (s.entry i) = true := eligible_iff.2 ⟨e, he, hs, hw⟩
      refine ⟨fun hal h1 => chosen ?_, fun hal hi h1 => chosen ?_⟩
      · rw [State.writeBackPick_lru hf hal, List.find?_eq_some_iff_append]
        exact ⟨able, l1, l2, ho, fun j hj => by simp [h1 j hj]⟩
      · rw [State.writeBackPick_flush hf hal (State.flushDraws_of_inFlush hi), List.find?_eq_some_iff_append]
        exact ⟨by simp [able, hi], l1, l2, ho, fun j hj => by rcases h1 j hj with h | h <;> simp [h]⟩
    · exact State.exec_writeBackChoice_none (.inr (State.writeBackPick_none hf h))
    · refine State.exec_writeBackChoice_none (.inr ?_)
      cases hdraw : s.flushDraws with
      | true =>
        rw [State.writeBackPick_flush hf hal hdraw, List.find?_eq_none]
        intro j hj hpick
        obtain ⟨he, hi⟩ := Bool.and_eq_true_iff.1 hpick
        exact absurd hi (by simp [h j hj he])
      | false => exact State.writeBackPick_idle hf hal hdraw (hd.resolve_right (by simp [hdraw]))
  · intro s forces
    refine ⟨fun h => State.exec_writeBackChoice_none (.inl h), ?_, fun l1 b l2 i e hr ha hl h1 hb he => ?_⟩
    · simp only [State.forcedWrite_eq, List.findSome?_eq_none_iff, State.forcedBy_eq_none_iff]
      rfl
    · refine State.exec_writeBackChoice_some hr ha (State.writeBackPick_forced ?_) he
      rw [State.forcedWrite_eq, List.findSome?_eq_some_iff]
      exact ⟨l1, b, l2, hl, State.forcedBy_eq_some_iff.2 hb, fun c hc => State.forcedBy_eq_none_iff.2 (h1 c hc)⟩
  · intro s which unit i after found rest e h he t e'
    have he' : t.entry i = some e := by simpa [t, State.entry] using he
    rw [State.exec_writeBackComplete h, State.writeBackDone_eq he']

/-! ### What a view read leaves unchanged -/

/-- A view read acts on the bus and the port alone. -/
theorem State.viewAdvance_unchanged {α : Type} {g : State → α} (hbus : ∀ s f, g (State.onBus f s) = g s)
    (hport : ∀ s f, g (State.onPort f s) = g s) (n : Nat) (v : ViewRead) (s : State) :
    g (s.viewAdvance n v) = g s := by
  induction n generalizing v with
  | zero =>
    have answered : g (s.respond v.beat (.data (viewData v.values))) = g s := hbus s _
    simp only [State.viewAdvance, State.finishView]
    split
    · exact (hport _ _).trans answered
    · exact answered
  | succ n ih =>
    have asked (a : Ask) : g (s.ask a) = g s := hport s _
    simp only [State.viewAdvance]
    split
    · exact ih _
    split
    · exact ih _
    · exact ih _
    · split
      · split
        · exact hbus s _
        · exact ih _
      · exact asked _
    · exact asked _
    · exact asked _

theorem State.resumeViewsOn_unchanged {α : Type} {g : State → α} (hbus : ∀ s f, g (State.onBus f s) = g s)
    (hport : ∀ s f, g (State.onPort f s) = g s) (addr : Nat) (s : State) : g (s.resumeViewsOn addr) = g s := by
  have resumed (out : List ViewRead) (t : State) : g (out.foldl (fun t v => t.resumeView v) t) = g t := by
    induction out generalizing t with
    | nil => rfl
    | cons v out ih => exact (ih _).trans (State.viewAdvance_unchanged hbus hport _ v t)
  exact (resumed _ _).trans (hbus s _)

@[simp] theorem State.resumeViewsOn_merge (s : State) (addr : Nat) : (s.resumeViewsOn addr).merge = s.merge :=
  State.resumeViewsOn_unchanged (fun _ _ => rfl) (fun _ _ => rfl) addr s

@[simp] theorem State.resumeViewsOn_pipe (s : State) (addr : Nat) : (s.resumeViewsOn addr).pipe = s.pipe :=
  State.resumeViewsOn_unchanged (fun _ _ => rfl) (fun _ _ => rfl) addr s

@[simp] theorem State.resumeViewsOn_loader (s : State) (addr : Nat) : (s.resumeViewsOn addr).loader = s.loader :=
  State.resumeViewsOn_unchanged (fun _ _ => rfl) (fun _ _ => rfl) addr s

/-! ### A fill delivered (O43) -/

theorem State.foldl_respond (out : List BusBeat) (answer : Answer) (s : State) :
    out.foldl (fun t b => t.respond b answer) s =
      s.onBus fun f => { f with responses := f.responses ++ out.map fun b => ⟨b.master, b.unit, answer⟩ } := by
  induction out generalizing s with
  | nil => simp [State.onBus]
  | cons b out ih =>
    rw [List.foldl_cons, ih]
    simp [State.respond, State.onBus]

section Fill

variable {s : State} {i : Nat} {e : Entry} {px : Pixel} {data : Word} {found : EccCondition}

/-- The record that a fill leaves in its entry (R97, R98). -/
def fillRecord (found : EccCondition) (data : Word) : CellRecord :=
  if found = .uncorrectable then CellRecord.fresh else CellRecord.ofWord data

/-- The entry that a fill leaves, before the pixel's decision (R97, R98). -/
def Entry.filled (e : Entry) (found : EccCondition) (data : Word) : Entry :=
  { e with
    record := fillRecord found data
    state := if found = .uncorrectable then .dirty else .clean
    fillAsked := false }

theorem Entry.filled_not_writing (e : Entry) (found : EccCondition) (data : Word) :
    (e.filled found data).state ≠ .writing := by
  simp only [Entry.filled]
  split <;> decide

/-- A loss is charged to the pixel's exposure (R98). -/
def State.chargeIfLost (found : EccCondition) (px : Pixel) (s : State) : State :=
  if found = .uncorrectable then s.chargeLost px else s

theorem State.chargeIfLost_unchanged {α : Type} {g : State → α} (h : ∀ s f, g (State.onExpo f s) = g s)
    (found : EccCondition) (px : Pixel) (s : State) : g (s.chargeIfLost found px) = g s := by
  unfold State.chargeIfLost
  split
  · rw [State.chargeLost, State.recordFault_eq]
    exact (h _ _).trans (h s _)
  · rfl

theorem State.serveReads_eq (s : State) (addr : Nat) (w : Word) :
    let here (b : BusBeat) : Bool := !b.write && !b.locked && decide (b.unit = addr)
    s.serveReads addr w = (s.onBus fun f => { f with
      heldCells := f.heldCells.filter fun b => !here b
      responses := f.responses ++ (s.bus.heldCells.filter here).map fun b =>
        ⟨b.master, b.unit, .data w⟩ }).resumeViewsOn addr := by
  rw [State.serveReads, State.foldl_respond]
  rfl

/-- A fill delivered with a pixel waiting for it: the entry is filled, its reads are served, and the pixel decided. -/
theorem State.fillDelivered_eq (hw : s.waitingPixel = some (px, .fill)) :
    s.fillDelivered i e data found = (((((s.setEntry i (some (e.filled found data))).serveReads e.addr
      (fillRecord found data).word).chargeIfLost found px).decidePixel px i)).rowCheck := by
  have waits : ((s.setEntry i (some (e.filled found data))).serveReads e.addr
      (fillRecord found data).word).waitingPixel = some (px, .fill) := by
    rw [State.serveReads_eq, State.waitingPixel, State.resumeViewsOn_pipe]
    exact hw
  unfold Entry.filled fillRecord at waits
  simp only [State.fillDelivered, decide_eq_true_eq, waits]
  rfl

theorem State.exec_mergeFillDelivered {unit : Nat} {rest : List Access}
    (h : s.Delivers isFill 0 .fill unit data found rest) (hi : s.entryOf unit = some i) (he : s.entry i = some e)
    (hs : e.state = .filling) (ha : e.fillAsked = true) :
    exec .mergeFillDelivered s = .next ((s.delivered found rest).fillDelivered i e data found).settle := by
  change s.happen s.fillEvent = _
  simp [State.happen, h.running, State.fillEvent, h.deliverNth, hi, he, hs, ha]

theorem State.clipOf_congr {s t : State} (h : t.loader = s.loader) (p : Nat) : t.clipOf p = s.clipOf p := by
  simp only [State.clipOf, State.productEntry, h]

end Fill

/-- Settles O43: `State.fillDelivered_eq`, and the decision on the entry as the fill leaves it
(`State.decidePixel_eq`). -/
theorem fillDelivered : Obligations.FillDelivered := by
  intro s unit i data found rest e px h hi he hs ha hw t record here filled served lost out
  have served_eq : filled.serveReads e.addr record.word = served := by
    have beats : filled.bus = s.bus := s.delivered_bus found rest
    rw [State.serveReads_eq, beats]
  have lost_eq : served.chargeIfLost found px = lost := rfl
  have merge_eq : lost.merge = filled.merge := by
    rw [← lost_eq, State.chargeIfLost_unchanged (g := State.merge) fun _ _ => rfl]
    exact State.resumeViewsOn_merge _ _
  have loader_eq : lost.loader = s.loader := by
    rw [← lost_eq, State.chargeIfLost_unchanged (g := State.loader) fun _ _ => rfl]
    exact (State.resumeViewsOn_loader _ _).trans (s.delivered_loader found rest)
  have entry_eq : lost.entry i = some (e.filled found data) := by
    have hlen : i < t.merge.entries.length := by simpa [t] using State.entry_lt he
    rw [State.entry, merge_eq]
    exact State.entry_setEntry_same hlen _
  have waits : t.waitingPixel = some (px, .fill) := by simpa [t, State.waitingPixel] using hw
  rw [State.exec_mergeFillDelivered h hi he hs ha, State.fillDelivered_eq waits]
  change Host.Outcome.next (((filled.serveReads e.addr record.word).chargeIfLost found px).decidePixel px
    i).rowCheck.settle = _
  rw [served_eq, lost_eq, State.decidePixel_eq entry_eq, State.clipOf_congr loader_eq,
    decide_eq_false (e.filled_not_writing found data), Bool.or_false]
  rfl

end Sys2Proof.Machine

namespace Sys2Proof.Machine

/-! ### Positions of a view read (O23) -/

section ViewRead

variable {s : State} {v : ViewRead}

/-- A view read with one more position answered. -/
def ViewRead.answer (v : ViewRead) (w : BitVec 16) : ViewRead := { v with values := v.values ++ [w] }

/-- The address of the record of the next position. -/
def ViewRead.nextAddr (v : ViewRead) : Nat := v.base + (v.first + v.values.length) * 8

/-- A position beyond the cells, or of an EMPTY or CLEARING product, is BLANK (R164). -/
theorem State.viewAdvance_blank (h : v.total ≤ v.first + v.values.length ∨ (s.product v.product).state = .empty ∨
    (s.product v.product).state = .clearing) (n : Nat) :
    s.viewAdvance (n + 1) v = s.viewAdvance n (v.answer 0x8000#16) := by
  rw [State.viewAdvance]
  by_cases hc : v.total ≤ v.first + v.values.length
  · exact if_pos hc
  · rcases h.resolve_left hc with h | h <;> simp only [if_neg hc, h] <;> rfl

/-- A position is read from memory where its product is FROZEN or RENDERING, or OPEN with its cell not held (R164). -/
theorem State.viewAdvance_asks (hc : v.first + v.values.length < v.total)
    (h : (s.product v.product).state = .frozen ∨ (s.product v.product).state = .rendering ∨
      ((s.product v.product).state = .opened ∧ s.entryOf v.nextAddr = none)) (n : Nat) :
    s.viewAdvance (n + 1) v = s.ask ⟨.viewRead v, v.nextAddr, none⟩ := by
  rw [State.viewAdvance]
  rcases h with h | h | ⟨h, he⟩
  · simp only [if_neg (Nat.not_le.2 hc), h]; rfl
  · simp only [if_neg (Nat.not_le.2 hc), h]; rfl
  · have unheld : (s.entryOf (cellAddress v.base (v.first + v.values.length))).bind s.entry = none := by
      rw [show s.entryOf (cellAddress v.base (v.first + v.values.length)) = none from he]; rfl
    simp only [if_neg (Nat.not_le.2 hc), h, unheld]; rfl

/-- An OPEN product's held cell answers with its record, or holds the read while it fills (R164). -/
theorem State.viewAdvance_held {j : Nat} {e : Entry} (hc : v.first + v.values.length < v.total)
    (h : (s.product v.product).state = .opened) (hj : s.entryOf v.nextAddr = some j) (he : s.entry j = some e)
    (n : Nat) :
    s.viewAdvance (n + 1) v = if e.state = .filling then s.onBus fun f => { f with views := f.views ++ [v] }
      else s.viewAdvance n (v.answer (normalise e.record.sum e.record.hits (s.rsOf v.product))) := by
  have held : (s.entryOf (cellAddress v.base (v.first + v.values.length))).bind s.entry = some e := by
    rw [show s.entryOf (cellAddress v.base (v.first + v.values.length)) = some j from hj]; exact he
  rw [State.viewAdvance]
  simp only [if_neg (Nat.not_le.2 hc), h, held]
  rfl

/-- The positions left of an EMPTY or CLEARING product are BLANK, and the read completes. -/
theorem State.viewAdvance_all_blank (h : (s.product v.product).state = .empty ∨ (s.product v.product).state = .clearing)
    (n : Nat) : s.viewAdvance n v = s.finishView { v with values := v.values ++ List.replicate n 0x8000#16 } := by
  induction n generalizing v with
  | zero => simp [State.viewAdvance]
  | succ n ih =>
    rw [State.viewAdvance_blank (.inr h), ih (v := v.answer 0x8000#16) h]
    simp [ViewRead.answer, List.replicate_succ]

/-- A view read of such a product is answered at once, BLANK four times (R164). -/
theorem State.viewAdvance_unanswered (hv : v.values = [])
    (h : (s.product v.product).state = .empty ∨ (s.product v.product).state = .clearing) :
    s.viewAdvance 4 v = if v.holdDue then
      (s.respond v.beat (.data 0x8000800080008000#64)).onPort fun p => { p with hold := true }
      else s.respond v.beat (.data 0x8000800080008000#64) := by
  have four : viewData (List.replicate 4 0x8000#16) = 0x8000800080008000#64 := by decide
  rw [State.viewAdvance_all_blank h, State.finishView, hv, List.nil_append, four]

theorem State.rsOf_installed {p : Nat} {q : ProductEntry} (h : s.productEntry p = some q) : s.rsOf p = q.rs := by
  simp only [State.rsOf, h]

/-- A read that resumes with a position left has a step to make. -/
theorem State.resumeView_step (h : v.values.length < 4) :
    s.resumeView v = s.viewAdvance (3 - v.values.length + 1) v := by
  rw [State.resumeView, show 4 - v.values.length = 3 - v.values.length + 1 by omega]

theorem State.resumeView_answer (w : BitVec 16) :
    s.resumeView (v.answer w) = s.viewAdvance (3 - v.values.length) (v.answer w) := by
  rw [State.resumeView, show 4 - (v.answer w).values.length = 3 - v.values.length by simp [ViewRead.answer]]

/-- With four positions answered the beat completes, and a hold still due begins (R185). -/
theorem State.resumeView_four {x0 x1 x2 x3 : BitVec 16} (h : v.values = [x0, x1, x2, x3]) :
    s.resumeView v = if v.holdDue then
      (s.respond v.beat (.data (x3 ++ x2 ++ x1 ++ x0))).onPort fun p => { p with hold := true }
      else s.respond v.beat (.data (x3 ++ x2 ++ x1 ++ x0)) := by
  simp [State.resumeView, State.viewAdvance, State.finishView, h, viewData]

end ViewRead

section Delivered

variable {s : State} {which unit : Nat} {data : Word} {found : EccCondition} {rest : List Access} {v : ViewRead}

theorem State.exec_viewPositionDelivered (h : s.Delivers isViewRead which (.viewRead v) unit data found rest) :
    exec (.viewPositionDelivered which) s =
      .next ((s.delivered found rest).positionDelivered v data found).settle := by
  change s.happen (s.viewEvent which) = _
  simp [State.happen, h.running, State.viewEvent, h.deliverNth]

/-- The read after a position's record has been delivered: it has no hold due any more (R185). -/
def ViewRead.shown (v : ViewRead) (w : BitVec 16) : ViewRead := { v with values := v.values ++ [w], holdDue := false }

theorem State.resumeView_shown_last {u : State} {x0 x1 x2 w : BitVec 16} (h : v.values = [x0, x1, x2]) :
    u.resumeView (v.shown w) = u.respond v.beat (.data (w ++ x2 ++ x1 ++ x0)) :=
  State.resumeView_four (v := v.shown w) (by simp [ViewRead.shown, h])

/-- The next position of a FROZEN or RENDERING product is read in turn. -/
theorem State.resumeView_shown_asks {u : State} {w : BitVec 16} (hn : v.values.length < 3)
    (hc : v.first + v.values.length + 1 < v.total)
    (h : (u.product v.product).state = .frozen ∨ (u.product v.product).state = .rendering) :
    u.resumeView (v.shown w) =
      u.ask ⟨.viewRead (v.shown w), v.base + (v.first + v.values.length + 1) * 8, none⟩ := by
  have hlen : (v.shown w).values.length = v.values.length + 1 := by simp [ViewRead.shown]
  have hnext : (v.shown w).nextAddr = v.base + (v.first + v.values.length + 1) * 8 := by
    rw [ViewRead.nextAddr, hlen]; rfl
  rw [State.resumeView_step (by omega), State.viewAdvance_asks (v := v.shown w) (by rw [hlen]; exact hc)
    (h.imp_right .inl), hnext]

/-- Where the product has been discarded meanwhile the positions left are BLANK (log 43). -/
theorem State.resumeView_shown_empty {u : State} {w : BitVec 16} (hn : v.values.length < 3)
    (h : (u.product v.product).state = .empty) :
    let value (k : Nat) : BitVec 16 := (v.values ++ [w]).getD k 0x8000#16
    u.resumeView (v.shown w) = u.respond v.beat (.data (value 3 ++ value 2 ++ value 1 ++ value 0)) := by
  intro value
  have padded (k : Nat) (hk : k < 4) :
      ((v.values ++ [w]) ++ List.replicate (4 - (v.values ++ [w]).length) 0x8000#16).getD k 0#16 = value k := by
    have hlen : (v.values ++ [w]).length ≤ 3 := by simp; omega
    rw [List.getD_eq_getElem?_getD, List.getElem?_append]
    simp only [value, List.getD_eq_getElem?_getD]
    split
    · next hin => simp [List.getElem?_eq_getElem hin]
    · next hout =>
      rw [List.getElem?_eq_none (Nat.not_lt.1 hout), List.getElem?_replicate, if_pos (by omega)]
      rfl
  rw [State.resumeView, State.viewAdvance_all_blank (v := v.shown w) (.inl h), State.finishView]
  simp only [ViewRead.shown, if_neg Bool.false_ne_true, viewData, padded 0 (by omega), padded 1 (by omega),
    padded 2 (by omega), padded 3 (by omega)]

end Delivered

/-- Settles O23: the delivery, by what the read resumes with; one position, by its case; and the reads of a cell. -/
theorem viewPositions : Obligations.ViewPositions := by
  refine ⟨?_, ?_, fun s addr => rfl⟩
  · intro s which unit data found rest v h t r answered
    have product_eq : t.product v.product = s.product v.product := by simp [t, State.product]
    have entry_eq : t.productEntry v.product = s.productEntry v.product := by simp [t, State.productEntry]
    have answers (rs : Nat) (u : State) (hrs : t.rsOf v.product = rs) (hu : t.rsUsed v.product = u)
        (hp : u.product v.product = s.product v.product) (hf : found ≠ .uncorrectable) : answered rs u := by
      let w := normalise r.sum r.hits rs
      have resumes : exec (.viewPositionDelivered which) s = .next (u.resumeView (v.shown w)).settle := by
        rw [State.exec_viewPositionDelivered h, State.positionDelivered, if_neg hf]
        subst hrs hu
        rfl
      refine ⟨resumes, fun x0 x1 x2 hv => ?_, fun hn hc hst => ?_, fun hn hst => ?_⟩
      · rw [resumes, State.resumeView_shown_last hv]
      · rw [resumes, State.resumeView_shown_asks hn hc (hp ▸ hst)]
        rfl
      · intro value
        rw [resumes, State.resumeView_shown_empty hn (hp ▸ hst)]
    refine ⟨fun hf => ?_, fun hf => ⟨fun q hq => answers q.rs t ?_ ?_ product_eq hf, fun hq => answers _ _ ?_ ?_ ?_ hf⟩⟩
    · rw [State.exec_viewPositionDelivered h, State.positionDelivered, if_pos hf]
    · exact State.rsOf_installed (entry_eq.trans hq)
    · simp [State.rsUsed, entry_eq, hq]
    · simp [State.rsOf, entry_eq, hq, t]
    · simp [State.rsUsed, entry_eq, hq, t]
    · exact product_eq
  · intro s v cell addr state shown asked
    refine ⟨fun hn => ?_, fun x0 x1 x2 x3 hv => State.resumeView_four hv⟩
    rw [State.resumeView_step hn]
    have shown_eq (w : BitVec 16) : shown w = s.viewAdvance (3 - v.values.length) (v.answer w) :=
      State.resumeView_answer w
    refine ⟨fun h => ?_, fun hc h => ?_, fun hc h => ⟨fun he => ?_, fun j e hj he => ⟨fun hs => ?_, fun q hs hq => ?_⟩⟩⟩
    · rw [shown_eq, State.viewAdvance_blank h]
    · exact State.viewAdvance_asks hc (h.imp_right .inl) _
    · exact State.viewAdvance_asks hc (.inr (.inr ⟨h, he⟩)) _
    · rw [State.viewAdvance_held hc h hj he, if_pos hs]
    · rw [State.viewAdvance_held hc h hj he, if_neg hs, shown_eq, State.rsOf_installed hq]

end Sys2Proof.Machine

namespace Sys2Proof.Machine

/-! ### A part in which nothing waits -/

/-- No event's end lets go on anything of the merge buffer, the waiting pixel, a discard or a RESTART. -/
structure State.Still (s : State) : Prop where
  heldCells : s.bus.heldCells = []
  flushes : s.merge.flushes = []
  restart : s.bus.restart = none
  undiscarded : ∀ p < 4, (s.product p).mark ≠ .discarding
  pixel : ∀ px w, s.waitingPixel = some (px, w) → w = .fill
  fills : ∀ i e, s.entry i = some e → ¬e.unasked

theorem State.pixelSettled_iff {s : State} :
    s.pixelSettled = true ↔ ∀ px w, s.waitingPixel = some (px, w) → w = .fill := by
  unfold State.pixelSettled
  split <;> simp_all

theorem State.mem_entries {s : State} {i : Nat} {e : Entry} (he : s.entry i = some e) : some e ∈ s.merge.entries := by
  have hi := State.entry_lt he
  rw [State.entry, List.getD_eq_getElem _ _ hi] at he
  exact he ▸ List.getElem_mem hi

/-- A quiet part is still, and no beat waits for a lock or a master. -/
theorem State.still_of_quiet {s : State} (h : s.quiet = true) :
    s.Still ∧ s.bus.lockWaiters = [] ∧ s.bus.stalled = [] := by
  simp only [State.quiet, Bool.and_eq_true, List.isEmpty_iff, Option.isNone_iff_eq_none, State.pixelSettled_iff] at h
  obtain ⟨⟨⟨⟨⟨⟨⟨hcells, hwaiters⟩, hstalled⟩, hrestart⟩, hflushes⟩, hmarks⟩, hpixel⟩, hfills⟩ := h
  refine ⟨⟨hcells, hflushes, hrestart, fun p hp => ?_, hpixel, fun i e he hu => ?_⟩, hwaiters, hstalled⟩
  · exact of_decide_eq_true (List.all_eq_true.1 hmarks p (List.mem_range.2 hp))
  · have filled := List.all_eq_true.1 hfills _ (State.mem_entries he)
    rw [unasked_iff.2 ⟨e, rfl, hu⟩] at filled
    cases filled

theorem State.onBus_eq_self {s : State} {f : BusFront → BusFront} (h : f s.bus = s.bus) : s.onBus f = s := by
  rw [State.onBus, h]

theorem State.onMerge_eq_self {s : State} {f : MergeBuffer → MergeBuffer} (h : f s.merge = s.merge) :
    s.onMerge f = s := by
  rw [State.onMerge, h]

namespace State.Still

variable {s : State}

theorem cellsAdvance (h : s.Still) : s.cellsAdvance = s := by
  rw [State.cellsAdvance, h.heldCells]
  exact State.onBus_eq_self (congrArg (fun x => { s.bus with heldCells := x }) h.heldCells.symm)

theorem flushAdvance (h : s.Still) : s.flushAdvance = s := by
  rw [State.flushAdvance, h.flushes]
  refine State.onMerge_eq_self ?_
  rw [h.flushes]
  exact congrArg (fun x => { s.merge with flushes := x }) h.flushes.symm

theorem discardAdvance (h : s.Still) : s.discardAdvance = s := by
  have steps (l : List Nat) (hl : ∀ p ∈ l, p < 4) : l.foldl State.discardStep s = s := by
    induction l with
    | nil => rfl
    | cons p l ih =>
      have step : s.discardStep p = s := by rw [State.discardStep, if_neg (h.undiscarded p (hl p (by simp)))]
      rw [List.foldl_cons, step, ih fun q hq => hl q (List.mem_cons_of_mem p hq)]
  exact steps _ fun p => List.mem_range.1

theorem pixelRetry (h : s.Still) : s.pixelRetry = s := by
  unfold State.pixelRetry
  dsimp only
  split
  · exact State.askFill_none h.fills
  · exact State.askFill_none h.fills
  · next hw => cases h.pixel _ _ hw
  · next hw => cases h.pixel _ _ hw

theorem restartAdvance (h : s.Still) : s.restartAdvance = s := by
  simp only [State.restartAdvance, h.restart]

theorem mergeSettle (h : s.Still) : s.mergeSettle = s := by
  rw [State.mergeSettle, h.cellsAdvance, h.flushAdvance, h.discardAdvance, h.pixelRetry, h.flushAdvance,
    h.restartAdvance]

end State.Still

/-! ### Locked reads and pairs (O20) -/

section Take

variable {s : State} {b : BusBeat}

/-! #### A beat as it is taken (R170 to R173) -/

theorem BusBeat.refusedLocked_iff : b.refusedLocked = true ↔ b.locked = true ∧ (b.write = true ∨ b.length ≠ 1) := by
  simp [BusBeat.refusedLocked]

theorem State.takeCore_refused (h : b.refusedLocked = true) : s.takeCore b = s.respond b .error := if_pos h

/-- No lock holds a refused transaction (log 20). -/
theorem State.lockBlocks_refused (h : b.refusedLocked = true) : s.lockBlocks b = false := by
  unfold State.lockBlocks
  split <;> simp [h]

theorem State.lockBlocks_unlocked (h : s.bus.lock = none) : s.lockBlocks b = false := by
  simp only [State.lockBlocks, h]

/-- What the lock that stands holds: any locked read, and a beat of another master to its unit (R173). -/
theorem State.lockBlocks_iff {l : Lock} (h : s.bus.lock = some l) (hr : b.refusedLocked = false) :
    s.lockBlocks b = true ↔ b.locked = true ∨ (b.master ≠ l.master ∧ b.unit = l.unit) := by
  simp [State.lockBlocks, h, hr]

theorem State.takeCore_blocked (hr : b.refusedLocked = false) (h : s.lockBlocks b = true) :
    s.takeCore b = s.onBus fun f => { f with lockWaiters := f.lockWaiters ++ [b] } := by
  simp [State.takeCore, hr, h]

/-- A beat that no lock holds is routed, and a locked read takes the lock (R172). -/
theorem State.takeCore_routed (hr : b.refusedLocked = false) (h : s.lockBlocks b = false)
    (hroute : s.route b.unit ≠ .beyond) :
    s.takeCore b = (if b.locked then s.takeLock b else s).routeBeat b := by
  have fits : ¬s.fitted ≤ b.unit := fun hf => hroute (by simp [State.route, hf])
  rw [State.takeCore, hr, h, if_neg Bool.false_ne_true, if_neg Bool.false_ne_true, if_neg fits]
  split <;> rfl

theorem beatOf_wellFormed {c : Instr} (h : beatOf c = some b) : c.wellFormed = beatWellFormed b.index b.length := by
  cases c <;> simp [beatOf] at h <;> subst h <;> rfl

/-- A beat command whose beat need not stall is taken. -/
theorem State.exec_taken {c : Instr} (hb : beatOf c = some b) (hf : c.wellFormed = true) (hr : s.inReset = false)
    (hm : s.masterHeld b.master = false) (hs : (s.bus.stalled.any fun x => decide (x.master = b.master)) = false) :
    exec c s = .next (s.takeBeat b).settle := by
  rw [exec_beat hb, State.present, ← beatOf_wellFormed hb, hf, hr]
  simp [State.arrive, hm, hs]

/-! #### The next transaction of the locking master (R173) -/

/-- The write of a locked pair. -/
def BusBeat.paired (b : BusBeat) : BusBeat := { b with pair := true }

/-- The lock's pair is taken. -/
def State.takePair (l : Lock) (s : State) : State :=
  s.onBus fun f => { f with lock := some { l with pairTaken := true } }

section Standing

variable {l : Lock} (hl : s.bus.lock = some l)

theorem Lock.isPair_iff : l.isPair b = true ↔ b.write = true ∧ b.locked = false ∧ b.length = 1 ∧ b.unit = l.unit := by
  simp [Lock.isPair, and_assoc]

include hl

theorem State.takeBeat_other (hm : b.master ≠ l.master) : s.takeBeat b = s.takeCore b := by
  simp only [State.takeBeat, hl, hm, false_and, if_false]

/-- What the lock holds of another master's beats waits for its end. -/
theorem State.takeBeat_waits (hm : b.master ≠ l.master) (hr : b.refusedLocked = false)
    (h : b.locked = true ∨ b.unit = l.unit) :
    s.takeBeat b = s.onBus fun f => { f with lockWaiters := f.lockWaiters ++ [b] } := by
  have blocks : s.lockBlocks b = true := (State.lockBlocks_iff hl hr).2 (h.imp_right fun hu => ⟨hm, hu⟩)
  rw [State.takeBeat_other hl hm, State.takeCore_blocked hr blocks]

theorem State.takeBeat_pair (hm : b.master = l.master) (ht : l.pairTaken = false) (hp : l.isPair b = true) :
    s.takeBeat b = (s.takePair l).takeCore b.paired := by
  simp only [State.takeBeat, hl]
  rw [if_pos ⟨hm, ht⟩, if_pos hp]
  rfl

theorem State.takeBeat_releases (hm : b.master = l.master) (ht : l.pairTaken = false) (hp : l.isPair b = false) :
    s.takeBeat b = s.endLock.onBus fun f => { f with lockWaiters := f.lockWaiters ++ [b] } := by
  simp only [State.takeBeat, hl, hm, ht, hp, and_self, if_true, if_neg Bool.false_ne_true]

/-- The pair's write is routed with its lock marked taken. -/
theorem State.takeBeat_pair_routed (hm : b.master = l.master) (ht : l.pairTaken = false) (hp : l.isPair b = true)
    (hroute : s.route b.unit ≠ .beyond) :
    s.takeBeat b = (s.takePair l).routeBeat b.paired := by
  obtain ⟨-, hlocked, -, -⟩ := Lock.isPair_iff.1 hp
  have unlocked : b.paired.locked = false := hlocked
  have unrefused : b.paired.refusedLocked = false := by simp [BusBeat.refusedLocked, unlocked]
  have unblocked : (s.takePair l).lockBlocks b.paired = false := by
    refine Bool.eq_false_iff.2 fun hblocks => ?_
    rcases (State.lockBlocks_iff rfl unrefused).1 hblocks with h | h
    · exact Bool.false_ne_true (unlocked.symm.trans h)
    · exact h.1 hm
  rw [State.takeBeat_pair hl hm ht hp, State.takeCore_routed unrefused unblocked hroute, unlocked,
    if_neg Bool.false_ne_true]

end Standing

/-! #### The regions a beat is routed to (R170) -/

theorem State.routeBeat_read (hw : b.write = false)
    (h : s.route b.unit = .ordinary ∨ s.route b.unit = .planArea ∨ ∃ k, s.route b.unit = .raw k) :
    s.routeBeat b = s.askRead b := by
  rcases h with h | h | ⟨k, h⟩ <;> simp [State.routeBeat, h, hw]

theorem State.routeBeat_view_read {p : Nat} {q : ProductEntry} (hw : b.write = false) (h : s.route b.unit = .view p)
    (hq : s.productEntry p = some q) : s.routeBeat b = s.viewAdvance 4
      ⟨b, p, q.width * q.height, q.base, (b.unit - q.viewBase) / 2, [], b.locked⟩ := by
  simp only [State.routeBeat, h, hw, if_neg Bool.false_ne_true, State.viewRead, hq]
  rfl

theorem State.routeBeat_view_write {p : Nat} (hw : b.write = true) (h : s.route b.unit = .view p) :
    s.routeBeat b = s.protectedWrite b := by
  simp [State.routeBeat, h, hw]

theorem State.routeBeat_ordinary_write (hw : b.write = true) (h : s.route b.unit = .ordinary) :
    s.routeBeat b = s.askStore false b := by
  simp [State.routeBeat, h, hw]

/-- With no load in progress there is none to mark changed (R13). -/
theorem State.markChanged_none (h : s.loader.load = none) : s.markChanged = s := by
  have same : { s.loader with load := s.loader.load.map fun x => { x with changed := true } } = s.loader := by
    rw [h]
    exact congrArg (fun x => { s.loader with load := x }) h.symm
  rw [State.markChanged, State.onLoader, same]

/-- A write in the plan area that changes no load is stored. -/
theorem State.routeBeat_plan_write (hw : b.write = true) (h : s.route b.unit = .planArea)
    (hc : s.loader.load = none ∨ s.planBase + 0x2D40 ≤ b.unit ∨ b.enables = 0#8) :
    s.routeBeat b = s.askStore false b := by
  simp only [State.routeBeat, h, hw, if_true, State.planAreaWrite]
  rcases hc with hc | hc | hc
  · rw [s.markChanged_none hc, ite_self]
  · have outside : s.inPlanBody b.unit = false := by
      have above : ¬b.unit < s.planBase + Config.bodyBytes := Nat.not_lt.2 hc
      rw [State.inPlanBody, within, decide_eq_false above, Bool.and_false]
    simp [outside]
  · simp [hc]

theorem State.routeBeat_unbound_write {k : Nat} (hw : b.write = true) (h : s.route b.unit = .raw k)
    (hb : (s.bank k).bound = false) : s.routeBeat b = (s.countUnbound (s.bank k).late).askStore false b := by
  simp only [State.routeBeat, h, hw, if_true, State.rawWrite_unbound hb]

/-- A write in an accumulator region that no entry meets is stored (R109, R111). -/
theorem State.cellRegion_stores {p : Nat} (hw : b.write = true) (h : (s.product p).state = .empty ∨
    (s.product p).state = .clearing ∨
      ((s.product p).state = .opened ∧ b.enables ≠ 0#8 ∧ s.entryOf b.unit = none)) :
    s.cellRegion p b = s.askStore false b := by
  rw [← s.carryOut_write hw]
  rcases h with h | h | ⟨h, he, hk⟩
  · exact State.cellRegion_plain (.inl h)
  · exact State.cellRegion_plain (.inr h)
  · exact (State.cellRegion_opened h (.inr he)).trans (State.cellBeat_unheld hk)

/-- The cells of a FROZEN or RENDERING product are not stored to (R161). -/
theorem State.cellRegion_protects {p : Nat} (hw : b.write = true)
    (h : (s.product p).state = .frozen ∨ (s.product p).state = .rendering) : s.cellRegion p b = s.protectedWrite b := by
  rw [State.cellRegion_fixed h, if_pos hw]

/-! #### Writes that are not stored (R161, R165, R173) -/

/-- A write not stored is counted and noticed when it enables a byte. -/
def State.countProtected (b : BusBeat) (s : State) : State :=
  if b.enables = 0#8 then s else
    (s.onBus fun f => { f with protectCount := min (f.protectCount + 1) 4294967295 }).raise .protect

theorem State.protectedWrite_eq : s.protectedWrite b = (s.countProtected b).finishWrite b := by
  unfold State.protectedWrite State.countProtected
  split <;> rfl

/-- The pair's write that is not stored ends its lock. -/
theorem State.finishWrite_paired (h : b.pair = true) : s.finishWrite b = (s.respond b .done).endLock := if_pos h

/-- A refused transaction of the locking master releases the lock, and is refused once nothing else waits. -/
theorem State.settle_refused (hq : s.quiet = true) (hr : b.refusedLocked = true) :
    (s.endLock.onBus fun f => { f with lockWaiters := f.lockWaiters ++ [b] }).settle = s.endLock.respond b .error := by
  obtain ⟨still, hwaiters, hstalled⟩ := State.still_of_quiet hq
  let u : State := s.endLock.onBus fun f => { f with lockWaiters := f.lockWaiters ++ [b] }
  have u_still : u.Still := { still with }
  have u_waiters : u.bus.lockWaiters = [b] := congrArg (· ++ [b]) hwaiters
  have u_stalled : u.bus.stalled = [] := hstalled
  have emptied : (u.onBus fun f => { f with lockWaiters := [] }) = s.endLock := by
    change (s.endLock.onBus fun f => { f with lockWaiters := [] }) = s.endLock
    exact State.onBus_eq_self (congrArg (fun x => { s.endLock.bus with lockWaiters := x }) hwaiters.symm)
  have after_still : (s.endLock.respond b .error).Still := { still with }
  have first : takeFirst (fun x => !u.lockBlocks x) [b] = some (b, []) := by
    simp [takeFirst, State.lockBlocks_refused hr]
  change u.settle = _
  rw [State.settle, u_still.mergeSettle, u_waiters, u_stalled]
  simp only [List.length_cons, List.length_nil, State.retake, u_waiters, first]
  rw [emptied, State.takeCore_refused hr, after_still.mergeSettle]

end Take

/-! #### The statement -/

/-- What a locked read of one beat meets, once it has taken its lock (R113, R164, R172). -/
theorem State.Takes.lockedRead {s : State} {c : Instr} {b : BusBeat} (h : s.Takes b) (hb : beatOf c = some b)
    (hlocked : b.locked = true) (hw : b.write = false) (hn : b.length = 1) (hroute : s.route b.unit ≠ .beyond) :
    exec c s = .next ((s.takeLock b).routeBeat b).settle := by
  have unrefused : b.refusedLocked = false := by simp [BusBeat.refusedLocked, hw, hn]
  rw [exec_beat hb, h.present, State.takeCore_routed unrefused (State.lockBlocks_unlocked h.unlocked) hroute, hlocked,
    if_pos rfl]

/-- Settles O20: the reads by the region they lock (`State.Takes.lockedRead`), and the beats that meet a standing lock
by the branches of `State.takeBeat`. -/
theorem lockedPairs : Obligations.LockedPairs := by
  refine ⟨?_, ?_⟩
  · intro s m w a i n e d b hb ht
    obtain ⟨rfl, rfl, hlocked, rfl⟩ : b.master = m ∧ b.write = w ∧ b.locked = true ∧ b.length = n := by
      obtain rfl := Option.some.inj hb
      exact ⟨rfl, rfl, rfl, rfl⟩
    refine ⟨fun h => ?_, fun hw hn => ?_⟩
    · rw [exec_beat hb, ht.present, State.takeCore_refused (BusBeat.refusedLocked_iff.2 ⟨hlocked, h⟩)]
    intro locked
    have taken {r : Route} {t : State} (hr : s.route b.unit = r) (hr' : r ≠ .beyond) (ht' : locked.routeBeat b = t) :
        exec (.lockedRead b.master b.write a i b.length e d) s = .next t.settle := by
      rw [ht.lockedRead hb hlocked hw hn (hr ▸ hr'), ← ht']
      rfl
    refine ⟨fun h => ?_, fun p hroute => ?_, fun p q hroute hq => ?_⟩
    · refine taken rfl ?_ (State.routeBeat_read hw h)
      rcases h with h | h | ⟨k, h⟩ <;> simp [h]
    · have region {t : State} (h : locked.cellRegion p b = t) :
          exec (.lockedRead b.master b.write a i b.length e d) s = .next t.settle :=
        taken hroute (by simp) ((State.routeBeat_cell (s := locked) hroute).trans h)
      refine ⟨fun h => region (State.cellRegion_read_memory hw h), fun k x hopen hk hx => ?_⟩
      have meets {t : State} (h : locked.cellBeat b = t.carryOut b) : locked.cellRegion p b = t.askRead b :=
        (State.cellRegion_opened (s := locked) hopen (.inl hw)).trans (h.trans (t.carryOut_read hw))
      refine ⟨fun hs => region (meets (State.cellBeat_clean hk hx (.inr hlocked) hs)), fun hs => region ?_,
        fun hs ha => region (meets (State.cellBeat_frees hk hx (.inr hlocked) hs ha))⟩
      refine (State.cellRegion_opened (s := locked) hopen (.inl hw)).trans
        (State.cellBeat_holds hk hx (.inr hlocked) ?_)
      rcases hs with hs | hs | hs
      · exact .inr (.inr ⟨hs, .inr hlocked⟩)
      · exact .inl hs
      · exact .inr (.inl hs)
    · intro first
      let v : ViewRead := ⟨b, p, q.width * q.height, q.base, first, [], true⟩
      have view {t : State} (h : locked.viewAdvance 4 v = t) :
          exec (.lockedRead b.master b.write a i b.length e d) s = .next t.settle := by
        refine taken hroute (by simp) (Eq.trans ?_ h)
        rw [State.routeBeat_view_read (s := locked) hw hroute hq, hlocked]
      exact ⟨fun h => view ((State.viewAdvance_unanswered (s := locked) (v := v) rfl h).trans (if_pos rfl)),
        fun hc h => view (State.viewAdvance_asks (s := locked) (v := v) hc h 3)⟩
  · intro s c b l hb hf hr hm hs hl hp
    have taken {t : State} (h : s.takeBeat b = t) : exec c s = .next t.settle := by
      rw [State.exec_taken hb hf hr hm hs, h]
    refine ⟨fun hmaster hw hlocked hn hu => ?_, fun hmaster h => ?_, fun hmaster hu hlocked => ?_,
      fun hmaster hlocked hw hn => ?_, fun hlocked h => ⟨fun hmaster => ?_, fun hmaster hq => ?_, fun t => ?_⟩⟩
    · intro b' pair ended counted
      have routed {t : State} (hroute : s.route b.unit ≠ .beyond) (h : pair.routeBeat b' = t) :
          exec c s = .next t.settle :=
        taken ((State.takeBeat_pair_routed hl hmaster hp (Lock.isPair_iff.2 ⟨hw, hlocked, hn, hu⟩) hroute).trans h)
      have unstored : pair.protectedWrite b' = ended (counted.respond b' .done) :=
        State.protectedWrite_eq.trans (State.finishWrite_paired rfl)
      refine ⟨fun h => routed (by simp [h]) (State.routeBeat_ordinary_write (s := pair) hw h),
        fun h hc => routed (by simp [h]) (State.routeBeat_plan_write (s := pair) hw h hc),
        fun k h hk => routed (by simp [h]) (State.routeBeat_unbound_write (s := pair) hw h hk), fun p h => ?_,
        fun p h => routed (by simp [h]) ((State.routeBeat_view_write (s := pair) (b := b') hw h).trans unstored)⟩
      have region {t : State} (ht : pair.cellRegion p b' = t) : exec c s = .next t.settle :=
        routed (by simp [h]) ((State.routeBeat_cell (s := pair) (b := b') h).trans ht)
      refine ⟨fun hst => region (State.cellRegion_stores hw hst), fun hopen he => region ?_,
        fun hst => region ((State.cellRegion_protects (s := pair) (b := b') hw hst).trans unstored)⟩
      exact (State.cellRegion_opened_nothing (s := pair) (b := b') hopen hw he).trans (State.finishWrite_paired rfl)
    · refine taken (State.takeBeat_releases hl hmaster hp (Bool.eq_false_iff.2 fun hpair => ?_))
      obtain ⟨hw, hlocked, hn, hu⟩ := Lock.isPair_iff.1 hpair
      simp [hw, hlocked, hn, hu] at h
    · have unrefused : b.refusedLocked = false := by simp [BusBeat.refusedLocked, hlocked]
      exact taken (State.takeBeat_waits hl hmaster unrefused (.inr hu))
    · have unrefused : b.refusedLocked = false := by simp [BusBeat.refusedLocked, hw, hn]
      exact taken (State.takeBeat_waits hl hmaster unrefused (.inl hlocked))
    all_goals have refused : b.refusedLocked = true := BusBeat.refusedLocked_iff.2 ⟨hlocked, h⟩
    · exact taken ((State.takeBeat_other hl hmaster).trans (State.takeCore_refused refused))
    · have unpaired : l.isPair b = false := by simp [Lock.isPair, hlocked]
      rw [taken (State.takeBeat_releases hl hmaster hp unpaired), State.settle_refused hq refused]
      rfl
    · exact State.lockBlocks_refused refused

end Sys2Proof.Machine

namespace Sys2Proof.Machine

/-! ### Control words (R174) -/

/-- Every control word has a unit of its own. -/
theorem State.wordAt_wordUnit (s : State) (c : ControlWord) : s.wordAt (s.wordUnit c) = some c := by
  have offset_inj (a : ControlWord) : s.wordUnit a = s.wordUnit c ↔ a = c := by
    rw [State.wordUnit, State.wordUnit, Nat.add_left_cancel_iff]
    cases a <;> cases c <;> decide
  simp only [State.wordAt, offset_inj]
  cases c <;> rfl

@[simp] theorem State.landed_wordAt (s : State) (unit : Nat) (after : StoredUnit) (found : Option EccCondition)
    (rest : List Access) (u : Nat) : (s.landed unit after found rest).wordAt u = s.wordAt u := by
  have same_unit : (s.landed unit after found rest).wordUnit = s.wordUnit := by
    funext c
    rw [State.wordUnit, State.planBase, State.landed_straps]
    rfl
  rw [State.wordAt, same_unit]
  rfl

theorem wordTouch_whole {enables : BitVec 8} (h : enables.extractLsb' 0 4 = 0xF#4) : wordTouch enables = .whole :=
  if_pos h

theorem wordTouch_part {enables : BitVec 8} (hf : enables.extractLsb' 0 4 ≠ 0xF#4)
    (hz : enables.extractLsb' 0 4 ≠ 0#4) : wordTouch enables = .part :=
  (if_neg hf).trans (if_neg hz)

/-- A store outside any pair does what it means for the control words, and the part settles (R174, R186). -/
theorem State.storeDone_unpaired {s : State} {b : BusBeat} (h : b.pair = false) :
    s.storeDone b = (s.wordStored b).settle := by
  simp [State.storeDone, h]

theorem State.wordStored_whole {s : State} {b : BusBeat} {c : ControlWord} (hp : s.part ≠ .bypass)
    (hc : s.wordAt b.unit = some c) (hw : b.enables.extractLsb' 0 4 = 0xF#4) :
    s.wordStored b = s.takeWord c (controlValue b.data) := by
  simp only [State.wordStored, if_neg hp, hc, wordTouch_whole hw]

theorem State.wordStored_part {s : State} {b : BusBeat} {c : ControlWord} (hp : s.part ≠ .bypass)
    (hc : s.wordAt b.unit = some c) (hf : b.enables.extractLsb' 0 4 ≠ 0xF#4)
    (hz : b.enables.extractLsb' 0 4 ≠ 0#4) : s.wordStored b = s.partWord c := by
  simp only [State.wordStored, if_neg hp, hc, wordTouch_part hf hz]

/-- The write in flight that completes is the oldest to the unit of the control word `c`. -/
abbrev State.CompletesWord (s : State) (c : ControlWord) (b : BusBeat) (ready : Bool) (unit : Nat) (after : StoredUnit)
    (found : Option EccCondition) (rest : List Access) : Prop :=
  s.Completes (fun j => isBusWrite j && isBusWriteTo (s.wordUnit c) j) 0 (.busWrite b ready) unit after found rest

namespace State.CompletesWord

variable {s : State} {c : ControlWord} {b : BusBeat} {ready : Bool} {unit : Nat} {after : StoredUnit}
  {found : Option EccCondition} {rest : List Access}

theorem wordAt_unit (h : s.CompletesWord c b ready unit after found rest) : s.wordAt b.unit = some c := by
  have hunit : b.unit = s.wordUnit c := by simpa [isBusWrite, isBusWriteTo] using h.picked
  rw [hunit, s.wordAt_wordUnit]

/-- The command of a control word, its write not waiting for its burst: the store lands and means what it does for the
word. -/
theorem happen_wordEvent (h : s.CompletesWord c b ready unit after found rest) (hpair : b.pair = false)
    (hfirst : s.wordBlocked (fun j => isBusWrite j && isBusWriteTo (s.wordUnit c) j) 0 = false) :
    s.happen (s.wordEvent c) = .next ((s.landed unit after found rest).wordStored b).settle := by
  have event : s.wordEvent c = some ((s.landed unit after found rest).wordStored b).settle := by
    rw [State.wordEvent, State.Completes.busWriteEvent h hfirst, State.storeDone_unpaired hpair]
  simp [State.happen, h.running, event]

/-- A control word written whole is taken (R174). -/
theorem taken (h : s.CompletesWord c b ready unit after found rest) (hp : s.part ≠ .bypass) (hpair : b.pair = false)
    (hw : b.enables.extractLsb' 0 4 = 0xF#4)
    (hfirst : s.wordBlocked (fun j => isBusWrite j && isBusWriteTo (s.wordUnit c) j) 0 = false) :
    s.happen (s.wordEvent c) =
      .next ((s.landed unit after found rest).takeWord c (controlValue b.data)).settle := by
  rw [h.happen_wordEvent hpair hfirst, State.wordStored_whole (by simpa using hp) (by simpa using h.wordAt_unit) hw]

/-- A control word written in part: its write takes no word, so it waits for no other of its burst (R174). -/
theorem partly (h : s.CompletesWord c b ready unit after found rest) (hp : s.part ≠ .bypass) (hpair : b.pair = false)
    (hf : b.enables.extractLsb' 0 4 ≠ 0xF#4) (hz : b.enables.extractLsb' 0 4 ≠ 0#4) :
    s.happen (s.wordEvent c) = .next ((s.landed unit after found rest).partWord c).settle := by
  have takes_none : s.takesWord b = false := by simp [State.takesWord, wordTouch_part hf hz]
  rw [h.happen_wordEvent hpair (State.Completes.wordBlocked h takes_none),
    State.wordStored_part (by simpa using hp) (by simpa using h.wordAt_unit) hf hz]

end State.CompletesWord

/-! ### Posts (O25) -/

/-- A post that keeps the descriptors outstanding and leaves no more than eight makes the new ones PENDING (R119). -/
theorem State.takePost_accepted {s : State} {p : Nat} (ho : s.expo.outstanding ≤ s.expo.wouldBe p)
    (hn : s.expo.wouldBe p ≤ 8) : s.takePost p = s.onExpo fun e => { e with
      accepted := p
      ring := e.ring ++ (List.range (s.expo.wouldBe p - s.expo.outstanding)).map fun i =>
        ⟨(s.expo.accepted + i) % 256, .pending, none, false⟩ } :=
  if_pos ⟨ho, hn⟩

/-- Any other post changes nothing but the cause it raises (R119). -/
theorem State.takePost_refused {s : State} {p : Nat} (h : s.expo.wouldBe p < s.expo.outstanding ∨ 8 < s.expo.wouldBe p) :
    s.takePost p = s.raise .ringFault :=
  if_neg fun ⟨ho, hn⟩ => h.elim ho.not_gt hn.not_gt

/-- The count that a post word carries is the low byte of its beat's data (R119, R174). -/
theorem State.takeWord_post (s : State) (data : Word) :
    s.takeWord .post (controlValue data) = s.takePost (data.extractLsb' 0 8).toNat := by
  have low_byte : (controlValue data).extractLsb' 0 8 = data.extractLsb' 0 8 := by
    simp [controlValue]
  rw [State.takeWord, low_byte]

/-- Settles O25: a word written whole is taken and a word written in part is not (`State.CompletesWord`), and the landing
of the write leaves the counts that decide about the post as they are. -/
theorem postWordTaken : Obligations.PostWordTaken := by
  intro s unit b ready after found rest h hp hpair t post o n
  have hword : s.CompletesWord .post b ready unit after found rest := h
  have ho : t.expo.outstanding = o := by simp only [t, State.landed_expo]; rfl
  have hn : t.expo.wouldBe post = n := by simp only [t, State.landed_expo]; rfl
  refine ⟨fun hw hfirst => ?_, fun hf hz => hword.partly hp hpair hf hz⟩
  have happens : exec .postWord s = .next (t.takePost post).settle := by
    rw [← State.takeWord_post]
    exact hword.taken hp hpair hw hfirst
  refine ⟨fun hle hle8 => ?_, fun hbad => ?_⟩
  · rw [happens, State.takePost_accepted (ho ▸ hn ▸ hle) (hn ▸ hle8), ho, hn, State.landed_expo]
  · rw [happens, State.takePost_refused (ho ▸ hn ▸ hbad)]

end Sys2Proof.Machine

namespace Sys2Proof.Machine

/-! ### ACTIVATION_ATTEMPT (O48) -/

/-- A candidate that may be attempted is (R120). -/
theorem State.exec_activationAttempt {s : State} {c : RingEntry} (hr : s.inReset = false) (hc : s.candidate = some c)
    (hmay : s.mayAttempt c = true) : exec .activationAttempt s = .next (s.attempt c) := by
  change s.happen s.attemptEvent = _
  simp [State.happen, hr, State.attemptEvent, hc, hmay]

/-- A candidate with the abort mark is finished without being read (R134). -/
theorem State.attempt_marked {s : State} {c : RingEntry} {tag : Nat} (h : c.mark = some tag) :
    s.attempt c = s.onExpo fun e => { e with
      waitBank := false, waitProduct := none
      ring := e.ring.map fun r => if r.number = c.number then { r with due := true } else r
      due := e.due ++ [⟨c.number, .rejected tag 0 0 .abortedBeforeActive []⟩] } := by
  rw [State.attempt, h]
  rfl

/-- A controller with only a candidate to read, none of its beats asked, asks for the first at once (R121). -/
theorem State.expoAsk_activation {s : State} {n : Nat} {discard : Bool} (ht : s.expo.tasks = [.activation])
    (hact : s.expo.activation = some ⟨n, 0, discard⟩) (ha : s.asking isExpoJob = false) :
    s.expoAsk = (s.onExpo fun e => { e with activation := some ⟨n, 1, discard⟩ }).ask
      ⟨.descriptorRead 0, s.ringAddr n, none⟩ := by
  simp [State.expoAsk, ha, ht, State.taskAsk, hact, Config.descriptorUnits]

/-- The read of an unmarked candidate begins in a controller with no port work of its own (R121). -/
theorem State.attempt_unmarked {s : State} {c : RingEntry} (hm : c.mark = none) (ht : s.expo.tasks = [])
    (ha : s.asking isExpoJob = false) : s.attempt c = (s.onExpo fun e => { e with
      activation := some ⟨c.number, 1, false⟩, waitBank := false, waitProduct := none, tasks := [.activation] }).ask
        ⟨.descriptorRead 0, s.ringAddr c.number, none⟩ := by
  let begun : State := (s.onExpo fun e => { e with
    activation := some ⟨c.number, 0, false⟩, waitBank := false, waitProduct := none }).beginTask .activation
  have hattempt : s.attempt c = begun.expoAsk := by rw [State.attempt, hm]
  have htasks : begun.expo.tasks = [.activation] := congrArg (· ++ [ExpoTask.activation]) ht
  have merged : (begun.onExpo fun e => { e with activation := some ⟨c.number, 1, false⟩ }) = s.onExpo fun e => { e with
      activation := some ⟨c.number, 1, false⟩, waitBank := false, waitProduct := none, tasks := [.activation] } := by
    simp [begun, State.beginTask, State.onExpo, ht]
  rw [hattempt, State.expoAsk_activation htasks rfl ha, merged]
  rfl

/-- Settles O48: both candidates may be attempted, the marked one whatever waits (R120, R134). -/
theorem attemptMade : Obligations.AttemptMade := by
  intro s c hr hpart hrestart hact hc hdue
  refine ⟨fun tag hm => ?_, fun hm hload hrec hbank hprod htasks hasking => ?_⟩
  · have may : s.mayAttempt c = true := by simp [State.mayAttempt, hpart, hrestart, hact, hdue, hm]
    rw [State.exec_activationAttempt hr hc may, State.attempt_marked hm]
  · have may : s.mayAttempt c = true := by
      simp [State.mayAttempt, hpart, hrestart, hact, hdue, hload, hrec, hbank, hprod]
    have unwaiting (f : ExposureCtl → ExposureCtl) :
        (s.onExpo fun e => f { e with waitBank := false, waitProduct := none }) = s.onExpo f := by
      rw [State.onExpo, ← hbank, ← hprod]
      rfl
    rw [State.exec_activationAttempt hr hc may, State.attempt_unmarked hm htasks hasking]
    exact congrArg (fun t : State => Host.Outcome.next (t.ask ⟨.descriptorRead 0, s.ringAddr c.number, none⟩))
      (unwaiting fun e => { e with activation := some ⟨c.number, 1, false⟩, tasks := [.activation] })

end Sys2Proof.Machine

namespace Sys2Proof.Machine

/-! ### Normalisation (O55) -/

/-- Limits that mirror each other clamp a value and its opposite alike. -/
theorem clamp_neg {m : Int} (hm : 0 ≤ m) (z : Int) : clamp (-m) m (-z) = -clamp (-m) m z := by
  rw [clamp_eq_max_min (by omega), clamp_eq_max_min (by omega)]
  omega

/-- The quotient of two magnitudes, a half rounded up. -/
def roundedQuotient (n d : Nat) : Nat := (2 * n + d) / (2 * d)

/-- The rounded quotient lies within half of the exact one, above included. -/
theorem roundedQuotient_bounds (n : Nat) {d : Nat} (hd : 0 < d) :
    2 * roundedQuotient n d * d ≤ 2 * n + d ∧ 2 * n < 2 * roundedQuotient n d * d + d := by
  have split : (2 * d) * roundedQuotient n d + (2 * n + d) % (2 * d) = 2 * n + d := Nat.div_add_mod _ _
  have remainder : (2 * n + d) % (2 * d) < 2 * d := Nat.mod_lt _ (by omega)
  rw [Nat.mul_right_comm] at split
  omega

/-- The rounded quotient passes the largest value from its half on. -/
theorem lt_roundedQuotient_iff (n : Nat) {d : Nat} (hd : 0 < d) : 32767 < roundedQuotient n d ↔ 65535 * d ≤ 2 * n := by
  rw [← Nat.succ_le_iff, roundedQuotient, Nat.le_div_iff_mul_le (by omega)]
  omega

/-- The quotient of a signed sum, a half rounded away from zero. -/
def signedQuotient (sum : Int) (d : Nat) : Int :=
  if sum < 0 then -(roundedQuotient sum.natAbs d : Int) else roundedQuotient sum.natAbs d

theorem signedQuotient_ofNat (n d : Nat) : signedQuotient n d = roundedQuotient n d := if_neg (by omega)

theorem signedQuotient_neg (sum : Int) {d : Nat} (hd : 0 < d) : signedQuotient (-sum) d = -signedQuotient sum d := by
  rw [signedQuotient, signedQuotient, Int.natAbs_neg]
  rcases lt_trichotomy sum 0 with hs | rfl | hs
  · rw [if_neg (by omega), if_pos hs, neg_neg]
  · have nothing : roundedQuotient 0 d = 0 := Nat.div_eq_of_lt (by omega)
    simp [nothing]
  · rw [if_pos (by omega), if_neg (by omega)]

section Normalise

variable {hits rs : Nat}

/-- With hits the value is the quotient by hits and scale, clamped (R160). -/
theorem normalise_eq (h : 0 < hits) (sum : Int) :
    normalise sum hits rs = BitVec.ofInt 16 (clamp (-32767) 32767 (signedQuotient sum (hits * 2 ^ rs))) :=
  if_neg h.ne'

theorem normalise_toInt (h : 0 < hits) (sum : Int) :
    (normalise sum hits rs).toInt = clamp (-32767) 32767 (signedQuotient sum (hits * 2 ^ rs)) := by
  obtain ⟨lower, upper⟩ := clamp_mem (lo := -32767) (hi := 32767) (by decide) (signedQuotient sum (hits * 2 ^ rs))
  rw [normalise_eq h, BitVec.toInt_ofInt_eq_self (by decide) (by omega) (by omega)]

/-- BLANK lies below the clamp's lower limit. -/
theorem normalise_ne_blank (h : 0 < hits) (sum : Int) : normalise sum hits rs ≠ 0x8000#16 := by
  intro blank
  have blank_value : clamp (-32767) 32767 (signedQuotient sum (hits * 2 ^ rs)) = -32768 := by
    rw [← normalise_toInt h, blank]
    rfl
  have lower := (clamp_mem (lo := -32767) (hi := 32767) (by decide) (signedQuotient sum (hits * 2 ^ rs))).1
  omega

theorem normalise_neg (h : 0 < hits) (sum : Int) : normalise (-sum) hits rs = -normalise sum hits rs := by
  rw [normalise_eq h, normalise_eq h, signedQuotient_neg sum (Nat.mul_pos h (Nat.two_pow_pos rs)),
    clamp_neg (by decide), BitVec.ofInt_neg]

/-- The value of a sum that is not negative. -/
theorem normalise_ofNat_toInt (h : 0 < hits) (n : Nat) :
    (normalise n hits rs).toInt = min 32767 (roundedQuotient n (hits * 2 ^ rs) : Int) := by
  rw [normalise_toInt h, signedQuotient_ofNat, clamp_eq_max_min (by decide)]
  omega

end Normalise

/-- Settles O55: the value is the clamp of the rounded quotient, which lies within half of the exact one and passes the
limit where the exact one reaches 32767.5. -/
theorem normalised : Obligations.Normalised := by
  intro sum hits rs
  refine ⟨if_pos rfl, fun h => ?_⟩
  intro v d
  have hd : 0 < hits * 2 ^ rs := Nat.mul_pos h (Nat.two_pow_pos rs)
  have d_eq : d = ((hits * 2 ^ rs : Nat) : Int) := by push_cast; rfl
  refine ⟨normalise_ne_blank h sum, fun hs hbeyond => ?_, fun hs hwithin => ?_, normalise_neg h sum⟩
  all_goals
    obtain ⟨n, rfl⟩ := Int.eq_ofNat_of_zero_le hs
    have value : v = _ := normalise_ofNat_toInt h n
    have limit := lt_roundedQuotient_iff n hd
  · omega
  · obtain ⟨above, below⟩ := roundedQuotient_bounds n hd
    have unclamped : v = (roundedQuotient n (hits * 2 ^ rs) : Int) := by omega
    rw [unclamped, d_eq]
    zify at above below
    push_cast
    omega

end Sys2Proof.Machine

namespace Sys2Proof.Machine

/-! ### Beats in view regions and of frozen cells (O19, O21) -/

/-- Settles O19: both writes are protected writes (`State.cellRegion_protects`, `State.routeBeat_view_write`), of a beat
outside a locked pair. -/
theorem protectedWrites : Obligations.ProtectedWrites := by
  intro s m a i n p e d b ht counted
  have unstored : s.protectedWrite b = counted.respond b .done :=
    State.protectedWrite_eq.trans (State.finishWrite_unpaired counted rfl)
  refine ⟨fun hroute hfixed => ?_, fun hroute => ?_⟩
  · rw [ht.exec_routed rfl rfl (by simp [b, hroute]), State.routeBeat_cell hroute, State.cellRegion_protects rfl hfixed,
      unstored]
  · rw [ht.exec_routed rfl rfl (by simp [b, hroute]), State.routeBeat_view_write rfl hroute, unstored]

section ViewRead

variable {s : State} {v : ViewRead}

/-- What a position of an OPEN product's view shows where the buffer holds its cell as `e`: the record normalised with
the installed rs, and BLANK past the last cell (R164). -/
def ViewRead.shows (v : ViewRead) (rs k : Nat) (e : Entry) : BitVec 16 :=
  if v.first + k < v.total then normalise e.record.sum e.record.hits rs else 0x8000#16

/-- The buffer holds the cell of the position `k`, past its fill. -/
def State.HoldsPosition (s : State) (v : ViewRead) (k : Nat) (e : Entry) : Prop :=
  e.state ≠ .filling ∧ ∃ j, s.entryOf (v.base + (v.first + k) * 8) = some j ∧ s.entry j = some e

/-- A position that the buffer holds, or past the last cell, is answered at once. -/
theorem State.viewAdvance_shows {q : ProductEntry} {e : Entry} {k : Nat}
    (hopen : (s.product v.product).state = .opened) (hq : s.productEntry v.product = some q) (hk : v.values.length = k)
    (he : v.first + k < v.total → s.HoldsPosition v k e) (n : Nat) :
    s.viewAdvance (n + 1) v = s.viewAdvance n (v.answer (v.shows q.rs k e)) := by
  subst hk
  by_cases hc : v.first + v.values.length < v.total
  · obtain ⟨hfilled, j, hj, hentry⟩ := he hc
    rw [State.viewAdvance_held hc hopen hj hentry, if_neg hfilled, State.rsOf_installed hq, ViewRead.shows, if_pos hc]
  · rw [State.viewAdvance_blank (.inl (Nat.not_lt.1 hc)), ViewRead.shows, if_neg hc]

/-- A view read all of whose positions the buffer holds, or past the last cell, completes at once. -/
theorem State.viewAdvance_all_shown {q : ProductEntry} {e : Nat → Entry} (hv : v.values = []) (hd : v.holdDue = false)
    (hopen : (s.product v.product).state = .opened) (hq : s.productEntry v.product = some q)
    (he : ∀ k < 4, v.first + k < v.total → s.HoldsPosition v k (e k)) :
    s.viewAdvance 4 v = s.respond v.beat (.data (v.shows q.rs 3 (e 3) ++ v.shows q.rs 2 (e 2) ++
      v.shows q.rs 1 (e 1) ++ v.shows q.rs 0 (e 0))) := by
  let v1 := v.answer (v.shows q.rs 0 (e 0))
  let v2 := v1.answer (v.shows q.rs 1 (e 1))
  let v3 := v2.answer (v.shows q.rs 2 (e 2))
  let v4 := v3.answer (v.shows q.rs 3 (e 3))
  have len1 : v1.values.length = 1 := by simp [v1, ViewRead.answer, hv]
  have len2 : v2.values.length = 2 := by simp [v2, ViewRead.answer, len1]
  have len3 : v3.values.length = 3 := by simp [v3, ViewRead.answer, len2]
  have all : v4.values =
      [v.shows q.rs 0 (e 0), v.shows q.rs 1 (e 1), v.shows q.rs 2 (e 2), v.shows q.rs 3 (e 3)] := by
    simp [v4, v3, v2, v1, ViewRead.answer, hv]
  calc s.viewAdvance 4 v
      = s.viewAdvance 3 v1 := State.viewAdvance_shows hopen hq (by simp [hv]) (he 0 (by decide)) 3
    _ = s.viewAdvance 2 v2 := State.viewAdvance_shows (v := v1) hopen hq len1 (he 1 (by decide)) 2
    _ = s.viewAdvance 1 v3 := State.viewAdvance_shows (v := v2) hopen hq len2 (he 2 (by decide)) 1
    _ = s.viewAdvance 0 v4 := State.viewAdvance_shows (v := v3) hopen hq len3 (he 3 (by decide)) 0
    _ = s.finishView v4 := rfl
    _ = _ := by
      have undue : v4.holdDue = false := hd
      rw [State.finishView, all, if_neg (by simp [undue])]
      rfl

end ViewRead

/-- Settles O21: the beat is a view read with no position answered and no hold due, and its positions go by their cases
(`State.viewAdvance_asks`, `State.viewAdvance_held`, `State.viewAdvance_shows`). -/
theorem viewReads : Obligations.ViewReads := by
  intro s m a i n p q ht hroute hq b first v
  have read {t : State} (h : s.viewAdvance 4 v = t) : exec (.viewReadBeat m a i n) s = .next t.settle := by
    rw [ht.exec_routed rfl rfl (by simp [hroute]), State.routeBeat_view_read rfl hroute hq, ← h]
    rfl
  refine ⟨fun hblank => read ?_, fun e hopen he => ?_, fun hc => ⟨fun hmem => read ?_, fun j e hopen hj he hs => read ?_⟩⟩
  · exact State.viewAdvance_unanswered (v := v) rfl hblank
  · exact read (State.viewAdvance_all_shown (v := v) rfl rfl hopen hq he)
  · exact State.viewAdvance_asks (v := v) hc hmem 3
  · rw [State.viewAdvance_held (v := v) hc hopen hj he, if_pos hs]

end Sys2Proof.Machine

namespace Sys2Proof.Machine

/-! ### THAW_PRODUCT and RENDER_PRODUCT (O31) -/

theorem State.exec_thawProduct {s : State} {r : RequestRecord} (h : s.Dispatched 4 r) :
    exec .thawProduct s = .next (s.takeThaw r) := by
  change s.happen ((s.dispatched 4).map fun r => s.takeThaw r) = _
  simp [State.happen, h.running, h.hand]

theorem State.exec_renderProduct {s : State} {r : RequestRecord} (h : s.Dispatched 5 r) :
    exec .renderProduct s = .next (s.takeRender r) := by
  change s.happen ((s.dispatched 5).map fun r => s.takeRender r) = _
  simp [State.happen, h.running, h.hand]

/-! #### What the engine of a render job asks for next (R154, R155) -/

/-- An ask of the engine that waits is its only one. -/
theorem State.engineAsk_asking {s : State} (h : s.asking isEngineJob = true) : s.engineAsk = s := by
  simp [State.engineAsk, h]

section EngineAsk

variable {s : State} {e : Engine} (he : s.prod.engine = e) (hk : e.kind = some .render) (hh : e.halting = none)
  (ha : s.asking isEngineJob = false)
include he hk hh ha

/-- An output beat with all its values is written (R155). -/
theorem State.engineAsk_renderWrite (hn : 0 < e.values.length) (hv : e.values.length = e.beatSize) :
    s.engineAsk = s.ask ⟨.renderWrite e.beatSize, e.outBase + 8 * e.outUnit,
      some ⟨beatEnables e.beatSize, beatData e.values⟩⟩ := by
  have filled : 0 < e.beatSize ∧ e.values.length = e.beatSize := ⟨hv ▸ hn, hv⟩
  simp [State.engineAsk, he, ha, hh, hk, filled]

/-- Until then the next cell of the beat's unit, if one is left, is read (R154). -/
theorem State.engineAsk_renderRead (hv : e.values.length ≠ e.beatSize) (hnext : e.next < e.total)
    (hunit : e.next / 4 = e.outUnit) :
    s.engineAsk = (s.onEngine fun x => { x with next := x.next + 1 }).ask
      ⟨.renderRead e.next, e.base + e.next * 8, none⟩ := by
  simp [State.engineAsk, he, ha, hh, hk, hv, hnext, hunit, cellAddress]

theorem State.engineAsk_renderWaits (hv : e.values.length ≠ e.beatSize)
    (hnext : e.total ≤ e.next ∨ e.next / 4 ≠ e.outUnit) : s.engineAsk = s := by
  have none_left : ¬(e.next < e.total ∧ e.next / 4 = e.outUnit) := by
    rintro ⟨hlt, hunit⟩
    exact hnext.elim hlt.not_ge fun hne => hne hunit
  simp [State.engineAsk, he, ha, hh, hk, hv, none_left]

end EngineAsk

/-- A render job starts by reading its first cell (R150, R154). -/
theorem State.startJob_render {s : State} {p : Nat} {q : ProductEntry} (ha : s.asking isEngineJob = false)
    (hc : 0 < q.width * q.height) :
    s.startJob .render p q = ((s.setProduct p ⟨.rendering, (s.product p).mark⟩).onEngine fun _ =>
      { kind := some .render, product := p, total := q.width * q.height, done := 0, next := 1, base := q.base,
        rs := q.rs, outBase := q.outBase, outUnit := 0, values := [], halting := none }).ask
      ⟨.renderRead 0, q.base, none⟩ := by
  let job : Engine :=
    { kind := some .render, product := p, total := q.width * q.height, done := 0, next := 0, base := q.base,
      rs := q.rs, outBase := q.outBase, outUnit := 0, values := [], halting := none }
  let started : State := (s.setProduct p ⟨.rendering, (s.product p).mark⟩).onEngine fun _ => job
  have unfilled : job.values.length ≠ job.beatSize := by
    change 0 ≠ min 4 (q.width * q.height - 4 * 0)
    omega
  have first : job.base + job.next * 8 = q.base := by simp [job]
  calc s.startJob .render p q
      = started.engineAsk := rfl
    _ = _ := State.engineAsk_renderRead (s := started) (e := job) rfl rfl rfl ha unfilled hc (Nat.zero_div 4)
    _ = _ := by rw [first]; rfl

section Requests

variable {s : State} {r : RequestRecord} (hp : s.part = .planned)

/-- The detail of a reply to a request of a product: its index as read, the state it was taken in, and a value (R143). -/
def State.takenDetail (s : State) (p v : Nat) : Detail := productDetail p (s.takenCode p) v

include hp

theorem State.takeThaw_beyond (h : 4 ≤ r.product) :
    s.takeThaw r = s.reply .badArgument (s.takenDetail r.product 0) := by
  simp [State.takeThaw, hp, h, State.takenDetail]

/-- Of a product that exists, THAW_PRODUCT goes by its state (R148). -/
theorem State.takeThaw_existing (h : r.product < 4) : s.takeThaw r =
    if (s.product r.product).state = .rendering then s.reply .busy (s.takenDetail r.product 0)
    else if (s.product r.product).state ≠ .frozen then s.reply .badState (s.takenDetail r.product 0)
    else (s.setProduct r.product ⟨.opened, .none⟩).reply .done (s.takenDetail r.product 0) := by
  simp only [State.takeThaw, hp, ne_eq, not_true_eq_false, if_false, if_neg (Nat.not_le.2 h)]
  rfl

theorem State.takeRender_undefined (h : 4 ≤ r.product ∨ s.productEntry r.product = none) :
    s.takeRender r = s.reply .badArgument (s.takenDetail r.product 0) := by
  have undefined_entry : (if r.product < 4 then s.productEntry r.product else none) = none := by
    rcases h with h | h
    · exact if_neg (Nat.not_lt.2 h)
    · rw [h, ite_self]
  simp [State.takeRender, hp, undefined_entry, State.takenDetail]

/-- Of a defined product, RENDER_PRODUCT goes by its output region, its state and the engine (R153). -/
theorem State.takeRender_defined {q : ProductEntry} (h : r.product < 4) (hq : s.productEntry r.product = some q) :
    s.takeRender r = if q.outBase = 0 then s.reply .badArgument (s.takenDetail r.product 0)
      else if (s.product r.product).state ≠ .frozen ∧ (s.product r.product).state ≠ .rendering then
        s.reply .badState (s.takenDetail r.product 0)
      else if s.engineRuns then s.reply .busy (s.takenDetail r.product 0)
      else (s.startJob .render r.product q).reply .accepted (s.takenDetail r.product q.cells) := by
  simp only [State.takeRender, hp, ne_eq, not_true_eq_false, if_false, if_pos h, hq]
  rfl

end Requests

/-- Settles O31: each request by its checks in order, and the job that a render starts (`State.startJob_render`). -/
theorem thawRenderTaken : Obligations.ThawRenderTaken := by
  intro s r hp p detail
  refine ⟨fun hd => ⟨fun h => ?_, fun h => ?_⟩, fun hd => ⟨fun h => ?_, fun q h hq => ?_⟩⟩
  · rw [State.exec_thawProduct hd, State.takeThaw_beyond hp h]
    rfl
  · rw [State.exec_thawProduct hd, State.takeThaw_existing hp h]
    refine ⟨fun hs => ?_, fun hs hf => ?_, fun hf => ?_⟩
    · rw [if_pos hs]
      rfl
    · rw [if_neg hs, if_pos hf]
      rfl
    · rw [if_neg (by simp [p, hf]), if_neg (by simp [p, hf])]
      rfl
  · rw [State.exec_renderProduct hd, State.takeRender_undefined hp h]
    rfl
  · rw [State.exec_renderProduct hd, State.takeRender_defined hp h hq]
    refine ⟨fun ho => ?_, fun ho hf hs => ?_, fun ho hs hr => ?_, fun ho hf hr ha hc => ?_⟩
    · rw [if_pos ho]
      rfl
    · rw [if_neg ho, if_pos ⟨hf, hs⟩]
      rfl
    · rw [if_neg ho, if_neg fun ⟨hf, hn⟩ => hs.elim hf hn, if_pos hr]
      rfl
    · rw [if_neg ho, if_neg fun h => h.1 hf, if_neg (by simp [hr]), State.startJob_render ha hc]
      rfl

end Sys2Proof.Machine

namespace Sys2Proof.Machine

/-! ### The end of a job and of a halt (R151, R156, R158) -/

/-- What a halted job leaves its product, no discard having asked for the halt (R158). -/
def JobKind.left : JobKind → ProductState
  | .clear => .empty
  | .render => .frozen

/-- What a job that ends gives its product (R151, R156). -/
def JobKind.ended : JobKind → ProductState
  | .clear => .opened
  | .render => .frozen

/-- The engine becomes IDLE, and the product of its job gets the state `left`. -/
def State.idled (p : Nat) (left : ProductState) (s : State) : State :=
  (s.setProduct p ⟨left, .none⟩).onEngine fun x => { x with kind := none, halting := none }

/-- What a complete halt of the job `e` does, for each thing that may have asked for it; `taken` is the product's state
code when a discard was taken (R149, R158, R159, R167). -/
def State.haltDone (cause : HaltCause) (e : Engine) (left : ProductState) (taken : Nat) (s : State) : State :=
  match cause with
  | .request => (s.idled e.product left).reply .done ⟨.product, e.product, 0, left.code, e.done⟩
  | .discard => (s.idled e.product .empty).reply .done ⟨.product, e.product, 0, taken, 0⟩
  | .restart => s.idled e.product left

theorem State.finishHalt_eq (s : State) (k : JobKind) (cause : HaltCause) :
    s.finishHalt k cause = s.haltDone cause s.prod.engine k.left s.keptCode := by
  cases cause with
  | discard => rfl
  | request => cases k <;> rfl
  | restart => cases k <;> rfl

theorem State.endJob_eq (s : State) (k : JobKind) : s.endJob k =
    ((s.setProduct s.prod.engine.product ⟨k.ended, .none⟩).onEngine fun x => { x with kind := none }).raise .jobDone := by
  cases k <;> rfl

theorem State.keptCode_congr {s t : State} (h : t.bus = s.bus) : t.keptCode = s.keptCode := by
  rw [State.keptCode, State.keptCode, h]

section EngineCheck

variable {s : State}

/-- An access of the engine is asked or in flight. -/
def State.EngineBusy (s : State) : Prop := s.asking isEngineJob = true ∨ s.flying isEngineJob = true

theorem State.landed_engineBusy (unit : Nat) (after : StoredUnit) (found : Option EccCondition) (rest : List Access) :
    (s.landed unit after found rest).EngineBusy ↔
      s.asking isEngineJob = true ∨ ∃ x ∈ rest, isEngineJob x.job = true := by
  simp [State.EngineBusy, State.flying]

theorem State.delivered_engineBusy (found : EccCondition) (rest : List Access) :
    (s.delivered found rest).EngineBusy ↔ s.asking isEngineJob = true ∨ ∃ x ∈ rest, isEngineJob x.job = true := by
  simp [State.EngineBusy, State.flying]

theorem State.engineCheck_busy (h : s.EngineBusy) : s.engineCheck = s := by
  unfold State.engineCheck
  dsimp only
  split
  · rfl
  · exact if_pos (by simpa [State.EngineBusy] using h)

variable {e : Engine} {k : JobKind} (he : s.prod.engine = e) (hk : e.kind = some k)
include he hk

/-- A halt is complete once no access of the job is left (R158). -/
theorem State.engineCheck_halted {cause : HaltCause} (hc : e.halting = some cause) (h : ¬s.EngineBusy) :
    s.engineCheck = s.haltDone cause e k.left s.keptCode := by
  have left_none : ¬(s.asking isEngineJob || s.flying isEngineJob) = true := by simpa [State.EngineBusy] using h
  rw [← he, ← s.finishHalt_eq]
  simp only [State.engineCheck, he, hk, hc, if_neg left_none]

variable (hh : e.halting = none)
include hh

/-- A job not halted goes on while it has an access left or something to ask for. -/
theorem State.engineCheck_unfinished (h : s.EngineBusy ∨ e.done ≠ e.total) : s.engineCheck = s := by
  by_cases hb : s.EngineBusy
  · exact State.engineCheck_busy hb
  · simp [State.engineCheck, he, hk, hh, h.resolve_left hb]

/-- With neither it ends (R151, R156). -/
theorem State.engineCheck_ends (h : ¬s.EngineBusy) (hd : e.done = e.total) : s.engineCheck =
    ((s.setProduct e.product ⟨k.ended, .none⟩).onEngine fun x => { x with kind := none }).raise .jobDone := by
  have left_none : ¬(s.asking isEngineJob || s.flying isEngineJob) = true := by simpa [State.EngineBusy] using h
  rw [← he, ← s.endJob_eq]
  simp only [State.engineCheck, he, hk, hh, if_neg left_none, if_pos hd]

end EngineCheck

/-! #### HALT_JOB (O33) -/

theorem State.exec_haltJob {s : State} {r : RequestRecord} (h : s.Dispatched 7 r) (he : s.jobEnding = false) :
    exec .haltJob s = .next s.takeHalt := by
  change s.happen ((s.dispatched 7).bind fun _ => if s.jobEnding then none else some s.takeHalt) = _
  simp [State.happen, h.running, h.hand, he]

theorem State.withdraw_asking (s : State) (pick : Job → Bool) : (s.withdraw pick).asking pick = false := by
  simp [State.asking, State.withdraw]

/-- Settles O33: the halt withdraws the ask, and the check that follows it finds an access in flight or completes the
halt (`State.engineCheck_busy`, `State.engineCheck_halted`). -/
theorem haltTaken : Obligations.HaltTaken := by
  intro s r hd hp e
  have runs_eq : s.engineRuns = e.kind.isSome := rfl
  refine ⟨fun hk => ?_, fun k hk he => ?_⟩
  · have idle : s.engineRuns = false := by simp [runs_eq, hk]
    rw [State.exec_haltJob hd (by simp [State.jobEnding, idle]), State.takeHalt, if_neg (by simp [hp]),
      if_neg (by simp [idle])]
  · let halting : State := ((s.keepInHand 0).withdraw isEngineJob).onEngine fun x =>
      { x with halting := some .request, values := [] }
    have taken : exec .haltJob s = .next halting.engineCheck := by
      rw [State.exec_haltJob hd he, State.takeHalt, if_neg (by simp [hp]), if_pos (by simp [runs_eq, hk])]
      rfl
    have busy_iff : halting.EngineBusy ↔ s.flying isEngineJob = true := by
      have unasked : halting.asking isEngineJob = false := State.withdraw_asking (s.keepInHand 0) isEngineJob
      exact or_iff_right (by simp [unasked])
    refine ⟨fun hf => ?_, fun hf => ?_⟩
    · rw [taken, State.engineCheck_busy (busy_iff.2 hf)]
    · intro after
      rw [taken, State.engineCheck_halted (s := halting) rfl hk rfl (by simp [busy_iff, hf])]
      cases k <;> rfl

/-! #### The last write of a job (O51) -/

section Completes

variable {s : State} {which unit : Nat} {after : StoredUnit} {found : Option EccCondition} {rest : List Access}

theorem State.exec_clearWriteComplete (h : s.Completes isClearWrite which .clearWrite unit after found rest) :
    exec (.clearWriteComplete which) s = .next (s.landed unit after found rest).engineCheck.settle := by
  change s.happen (s.clearEvent which) = _
  simp [State.happen, h.running, State.clearEvent, h.landNth]

theorem State.exec_renderWriteComplete {n : Nat}
    (h : s.Completes isRenderWrite which (.renderWrite n) unit after found rest) :
    exec (.renderWriteComplete which) s = .next (s.landed unit after found rest).engineCheck.settle := by
  change s.happen (s.renderWriteEvent which) = _
  simp [State.happen, h.running, State.renderWriteEvent, h.landNth]

end Completes

/-- Settles O51: both commands land the write and check the engine, whose outcome goes by the job's kind
(`State.engineCheck_unfinished`, `State.engineCheck_ends`, `State.engineCheck_halted`). -/
theorem jobWrites : Obligations.JobWrites := by
  intro s which unit after found rest e t more
  have engine_eq : t.prod.engine = e := congrArg ProductCtl.engine (s.landed_prod unit after found rest)
  have busy_iff := s.landed_engineBusy unit after found rest
  refine ⟨fun hh => ?_, fun cause hc => ?_⟩
  · have goes {c : Instr} {k : JobKind} (hx : exec c s = .next t.engineCheck.settle) (hk : e.kind = some k) :
        (more → exec c s = .next t.settle) ∧ (¬more → exec c s = .next (((t.setProduct e.product
          ⟨k.ended, .none⟩).onEngine fun x => { x with kind := none }).raise .jobDone).settle) := by
      have more_iff : more ↔ t.EngineBusy ∨ e.done ≠ e.total := by rw [busy_iff, or_assoc]
      rw [hx, more_iff, not_or, not_not]
      refine ⟨fun hm => ?_, fun ⟨hb, hd⟩ => ?_⟩
      · rw [State.engineCheck_unfinished engine_eq hk hh hm]
      · rw [State.engineCheck_ends engine_eq hk hh hb hd]
    exact ⟨fun h => goes (State.exec_clearWriteComplete h), fun n h => goes (State.exec_renderWriteComplete h)⟩
  · intro waits idle halted
    have goes {c : Instr} {k : JobKind} (hx : exec c s = .next t.engineCheck.settle) (hk : e.kind = some k) :
        (waits → exec c s = .next t.settle) ∧ (¬waits → exec c s = .next (halted k.left).settle) := by
      have kept : t.keptCode = s.keptCode := State.keptCode_congr (by simp [t])
      rw [hx]
      refine ⟨fun hw => by rw [State.engineCheck_busy (busy_iff.2 hw)], fun hw => ?_⟩
      rw [State.engineCheck_halted engine_eq hk hc (mt busy_iff.1 hw), kept]
      cases cause <;> rfl
    exact ⟨fun h => goes (State.exec_clearWriteComplete h), fun n h => goes (State.exec_renderWriteComplete h)⟩

/-! #### The records a render job reads (O52) -/

theorem State.onEngine_congr {s : State} {f g : Engine → Engine} (h : f s.prod.engine = g s.prod.engine) :
    s.onEngine f = s.onEngine g := by
  rw [State.onEngine, State.onEngine, State.onProd, State.onProd, h]

section RenderRead

variable {s : State} {which unit cell : Nat} {data : Word} {found : EccCondition} {rest : List Access} {e : Engine}

theorem State.exec_renderReadDelivered (h : s.Delivers isRenderRead which (.renderRead cell) unit data found rest) :
    exec (.renderReadDelivered which) s = .next ((s.delivered found rest).renderDelivered cell data found).settle := by
  change s.happen (s.renderReadEvent which) = _
  simp [State.happen, h.running, State.renderReadEvent, h.deliverNth]

/-- Of a halted job the value is discarded (R158). -/
theorem State.renderDelivered_halted {cause : HaltCause} (he : s.prod.engine = e) (h : e.halting = some cause) :
    s.renderDelivered cell data found = s.engineCheck := by
  simp [State.renderDelivered, he, h]

/-- The job with one more value in its output beat. -/
def Engine.place (e : Engine) (cell : Nat) (v : BitVec 16) : Engine := { e with values := e.values ++ [(cell % 4, v)] }

/-- The value of a record: BLANK when it was uncorrectable (R154, R157). -/
def renderedValue (data : Word) (found : EccCondition) (rs : Nat) : BitVec 16 :=
  if found = .uncorrectable then 0x8000#16 else
    normalise (CellRecord.ofWord data).sum (CellRecord.ofWord data).hits rs

/-- Of a job not halted the value takes its position in the output beat (R154, R157). -/
theorem State.renderDelivered_placed (he : s.prod.engine = e) (h : e.halting = none) :
    s.renderDelivered cell data found =
      (s.onEngine fun _ => e.place cell (renderedValue data found e.rs)).engineAsk := by
  have running : s.prod.engine.halting.isSome = false := by simp [he, h]
  rw [State.renderDelivered, running, ← he]
  rfl

end RenderRead

/-- Each value of an output beat enables two bytes (R155). -/
theorem beatEnables_eq (n : Nat) : beatEnables n = BitVec.ofNat 8 (4 ^ n - 1) := by
  rw [beatEnables, Nat.pow_mul]

/-- Settles O52: the value is placed and the engine asks for what is next (`State.engineAsk_renderWrite`,
`State.engineAsk_renderRead`), or the job is halted and the engine is checked. -/
theorem renderReads : Obligations.RenderReads := by
  intro s which unit cell data found rest h hk e r v t size
  let u : State := s.delivered found rest
  let job : Engine := e.place cell v
  have engine_eq : u.prod.engine = e := congrArg ProductCtl.engine (s.delivered_prod found rest)
  have delivers := State.exec_renderReadDelivered h
  have t_eq : t = u.onEngine fun _ => job := State.onEngine_congr (by rw [engine_eq]; rfl)
  have job_eq : t.prod.engine = job := by rw [t_eq]; rfl
  have placed (hh : e.halting = none) : exec (.renderReadDelivered which) s = .next t.engineAsk.settle := by
    rw [delivers, State.renderDelivered_placed engine_eq hh, t_eq]
    rfl
  have asking_eq : t.asking isEngineJob = s.asking isEngineJob := s.delivered_asking found rest isEngineJob
  have count_eq : job.values.length = e.values.length + 1 := List.length_append
  refine ⟨fun hh ha => ?_, fun hh ha hn => ?_, fun hh ha hn => ⟨fun hno => ?_, fun hnext hunit => ?_⟩, fun cause hc => ?_⟩
  · rw [placed hh, State.engineAsk_asking (asking_eq.trans ha)]
  · rw [placed hh, State.engineAsk_renderWrite job_eq hk hh (asking_eq.trans ha) (by omega) (count_eq.trans hn),
      beatEnables_eq]
    rfl
  · rw [placed hh, State.engineAsk_renderWaits job_eq hk hh (asking_eq.trans ha) (count_eq.trans_ne hn) hno]
  · rw [placed hh, State.engineAsk_renderRead job_eq hk hh (asking_eq.trans ha) (count_eq.trans_ne hn) hnext hunit]
    have next_eq : (t.onEngine fun x => { x with next := x.next + 1 }) =
        t.onEngine fun x => { x with next := e.next + 1 } :=
      State.onEngine_congr (by rw [job_eq]; rfl)
    rw [next_eq]
    rfl
  · intro waits idle halted
    have busy_iff := s.delivered_engineBusy found rest
    rw [delivers, State.renderDelivered_halted engine_eq hc]
    refine ⟨fun hw => by rw [State.engineCheck_busy (busy_iff.2 hw)], fun hw => ?_⟩
    have kept : u.keptCode = s.keptCode := State.keptCode_congr (by simp [u])
    rw [State.engineCheck_halted engine_eq hk hc (mt busy_iff.1 hw), kept]
    cases cause <;> rfl

end Sys2Proof.Machine

namespace Sys2Proof.Machine

/-! ### Routing (O10) -/

/-! #### Windows (R5, R6, R9, R163) -/

section Windows

variable {u base size k : Nat} {p : Plan} {e : ProductEntry}

theorem within_iff : within u base size = true ↔ base ≤ u ∧ u < base + size := by
  simp [within]

theorem within_eq_false_iff : within u base size = false ↔ u < base ∨ base + size ≤ u := by
  rw [Bool.eq_false_iff, ne_eq, within_iff]
  omega

theorem Plan.inBank_iff :
    p.inBank k u = true ↔ p.bankBase k ≠ 0 ∧ p.bankBase k ≤ u ∧ u < p.bankBase k + Config.bankSize := by
  simp [Plan.inBank, within_iff]

theorem Plan.inBank_eq_false_iff :
    p.inBank k u = false ↔ p.bankBase k = 0 ∨ u < p.bankBase k ∨ p.bankBase k + Config.bankSize ≤ u := by
  rw [Bool.eq_false_iff, ne_eq, Plan.inBank_iff]
  omega

theorem ProductEntry.holdsCell_iff :
    e.holdsCell u = true ↔ e.base ≠ 0 ∧ e.base ≤ u ∧ u < e.base + 8 * e.cells := by
  simp [ProductEntry.holdsCell, within_iff]

theorem ProductEntry.holdsCell_eq_false_iff :
    e.holdsCell u = false ↔ e.base = 0 ∨ u < e.base ∨ e.base + 8 * e.cells ≤ u := by
  rw [Bool.eq_false_iff, ne_eq, ProductEntry.holdsCell_iff]
  omega

theorem ProductEntry.holdsView_iff :
    e.holdsView u = true ↔ e.base ≠ 0 ∧ e.viewBase ≠ 0 ∧ e.viewBase ≤ u ∧ u < e.viewBase + e.viewSize := by
  simp [ProductEntry.holdsView, within_iff, and_assoc]

end Windows

/-! #### The rows before a plan's windows -/

section StateRows

variable {s : State} {u : Nat}

theorem State.route_beyond (h : s.fitted ≤ u) : s.route u = .beyond := if_pos h

variable (hu : u < s.fitted)
include hu

theorem State.route_bypass (hp : s.part = .bypass) : s.route u = .ordinary := by
  simp [State.route, hu.not_ge, hp]

theorem State.route_planArea (hp : s.part ≠ .bypass) (ha : s.inPlanArea u = true) : s.route u = .planArea := by
  cases hs : s.part with
  | bypass => exact absurd hs hp
  | unplanned => simp [State.route, hu.not_ge, hs, ha]
  | planned => simp [State.route, hu.not_ge, hs, ha]

theorem State.route_unplanned (hp : s.part = .unplanned) (ha : s.inPlanArea u = false) : s.route u = .ordinary := by
  simp [State.route, hu.not_ge, hp, ha]

/-- Past the plan area a unit goes by the windows of the plan. -/
theorem State.route_planned {p : Plan} (hp : s.part = .planned) (hplan : s.loader.plan = some p)
    (ha : s.inPlanArea u = false) : s.route u = p.route u := by
  simp [State.route, hu.not_ge, hp, hplan, ha]

end StateRows

/-! #### The windows of a plan -/

section PlanRows

variable {p : Plan} {u : Nat}

theorem Plan.route_bank0 (h : p.inBank 0 u = true) : p.route u = .raw 0 := if_pos h

variable (h0 : p.inBank 0 u = false)
include h0

theorem Plan.route_bank1 (h : p.inBank 1 u = true) : p.route u = .raw 1 := by
  simp [Plan.route, h0, h]

variable (h1 : p.inBank 1 u = false)
include h1

/-- The first product whose accumulator region holds the unit takes it. -/
theorem Plan.route_cell {l1 l2 : List ProductEntry} {e : ProductEntry} (hl : p.products = l1 ++ e :: l2)
    (hfirst : ∀ x ∈ l1, x.holdsCell u = false) (he : e.holdsCell u = true) : p.route u = .cell l1.length := by
  simp [Plan.route, h0, h1, hl, findIdx?_split l2 hfirst he]

variable (hcells : ∀ x ∈ p.products, x.holdsCell u = false)
include hcells

/-- In no accumulator region, the first product whose view region holds the unit takes it. -/
theorem Plan.route_view {l1 l2 : List ProductEntry} {e : ProductEntry} (hl : p.products = l1 ++ e :: l2)
    (hfirst : ∀ x ∈ l1, x.holdsView u = false) (he : e.holdsView u = true) : p.route u = .view l1.length := by
  have no_cell := List.findIdx?_eq_none_iff.2 hcells
  have view : (p.products.findIdx? fun x => x.holdsView u) = some l1.length := by
    rw [hl, findIdx?_split l2 hfirst he]
  simp [Plan.route, h0, h1, no_cell, view]

theorem Plan.route_ordinary (hviews : ∀ x ∈ p.products, x.holdsView u = false) : p.route u = .ordinary := by
  simp [Plan.route, h0, h1, List.findIdx?_eq_none_iff.2 hcells, List.findIdx?_eq_none_iff.2 hviews]

end PlanRows

/-- Settles O10: one lemma for each row of the table, first `State.route`'s and then `Plan.route`'s, each with the windows
of the rows above it empty of the unit. -/
theorem routeTable : Obligations.RouteTable := by
  intro s u
  refine ⟨State.route_beyond, fun hu => ⟨State.route_bypass hu, fun hp hlo hhi =>
    State.route_planArea hu hp (within_iff.2 ⟨hlo, hhi⟩), fun houtside => ?_⟩⟩
  have ha : s.inPlanArea u = false := within_eq_false_iff.2 houtside
  refine ⟨fun hp => State.route_unplanned hu hp ha, fun p hp hplan => ?_⟩
  rw [State.route_planned hu hp hplan ha]
  refine ⟨fun hb hlo hhi => Plan.route_bank0 (Plan.inBank_iff.2 ⟨hb, hlo, hhi⟩), fun hbank0 => ?_⟩
  have h0 : p.inBank 0 u = false := Plan.inBank_eq_false_iff.2 hbank0
  refine ⟨fun hb hlo hhi => Plan.route_bank1 h0 (Plan.inBank_iff.2 ⟨hb, hlo, hhi⟩), fun hbank1 => ?_⟩
  have h1 : p.inBank 1 u = false := Plan.inBank_eq_false_iff.2 hbank1
  refine ⟨fun l1 e l2 hl hfirst hb hlo hhi =>
    Plan.route_cell h0 h1 hl hfirst (ProductEntry.holdsCell_iff.2 ⟨hb, hlo, hhi⟩), fun houtsides => ?_⟩
  have hcells : ∀ x ∈ p.products, x.holdsCell u = false := fun x hx =>
    ProductEntry.holdsCell_eq_false_iff.2 (houtsides x hx)
  exact ⟨fun l1 e l2 hl hfirst hb hv hlo hhi =>
    Plan.route_view h0 h1 hcells hl hfirst (ProductEntry.holdsView_iff.2 ⟨hb, hv, hlo, hhi⟩),
    Plan.route_ordinary h0 h1 hcells⟩

end Sys2Proof.Machine

namespace Sys2Proof.Machine

/-! ### Beats refused or stalled at their arrival (O11) -/

/-- Past fitted DRAM no beat waits or takes a lock: one that no lock holds is refused (R171, R172). -/
theorem State.takeCore_beyond {s : State} {b : BusBeat} (hl : s.bus.lock = none) (hf : s.fitted ≤ b.unit) :
    s.takeCore b = s.respond b .error := by
  by_cases hr : b.refusedLocked = true
  · exact State.takeCore_refused hr
  · simp [State.takeCore, hr, State.lockBlocks_unlocked hl, hf]

/-- A beat of a master that has a beat held stalls behind it (R169). -/
theorem State.present_held {s : State} {b : BusBeat} (hf : beatWellFormed b.index b.length = true)
    (hr : s.inReset = false) (hm : s.masterHeld b.master = true) :
    s.present b = .next (s.onBus fun f => { f with stalled := f.stalled ++ [b] }) := by
  simp [State.present, hf, hr, State.arrive, hm]

/-- Settles O11: every beat command presents its beat (`exec_beat`), and the beat goes by the branches of
`State.present` and `State.takeCore`. -/
theorem beatsByAddress : Obligations.BeatsByAddress := by
  intro c d b s hc
  rw [exec_beat hc]
  refine ⟨fun hd => (exec_beat hd s).symm, fun hf => ?_, fun hf hr hm => ?_, fun ht hbeyond => ?_⟩
  · exact if_pos hf
  · exact State.present_held ((beatOf_wellFormed hc).symm.trans hf) hr hm
  · rw [ht.present, State.takeCore_beyond ht.unlocked hbeyond]

/-! ### Beats of ordinary memory and the plan area (O12) -/

/-- A load in progress into whose body a byte is written is marked changed (R13). -/
theorem State.markChanged_some {s : State} {l : Load} (h : s.loader.load = some l) :
    s.markChanged = s.onLoader fun x => { x with load := some { l with changed := true } } := by
  rw [State.markChanged, State.onLoader, State.onLoader, h]
  rfl

theorem Plan.route_ne_planArea (p : Plan) (u : Nat) : p.route u ≠ .planArea := by
  unfold Plan.route
  repeat' split
  all_goals simp

/-- Only the plan area's own units are routed to it (R170). -/
theorem State.inPlanArea_of_route {s : State} {u : Nat} (h : s.route u = .planArea) : s.inPlanArea u = true := by
  by_contra hne
  have ha : s.inPlanArea u = false := Bool.eq_false_iff.2 hne
  have hu : u < s.fitted := Nat.lt_of_not_ge fun hbeyond => by simp [State.route_beyond hbeyond] at h
  cases hp : s.part with
  | bypass => simp [State.route_bypass hu hp] at h
  | unplanned => simp [State.route_unplanned hu hp ha] at h
  | planned =>
    cases hplan : s.loader.plan with
    | none => simp [State.route, hu.not_ge, hp, hplan, ha] at h
    | some p => exact p.route_ne_planArea u ((State.route_planned hu hp hplan ha).symm.trans h)

/-- A unit of the plan area below the body's end lies in the body (R5, 12.2). -/
theorem State.inPlanBody_of_route {s : State} {u : Nat} (h : s.route u = .planArea)
    (hu : u < s.planBase + Config.bodyBytes) : s.inPlanBody u = true :=
  within_iff.2 ⟨(within_iff.1 (State.inPlanArea_of_route h)).1, hu⟩

/-- A write with a byte enabled into the plan body marks the load changed and is stored (R13). -/
theorem State.routeBeat_body_write {s : State} {b : BusBeat} {l : Load} (hw : b.write = true)
    (h : s.route b.unit = .planArea) (hl : s.loader.load = some l) (hu : b.unit < s.planBase + Config.bodyBytes)
    (he : b.enables ≠ 0#8) : s.routeBeat b =
      (s.onLoader fun x => { x with load := some { l with changed := true } }).askStore false b := by
  simp [State.routeBeat, h, hw, State.planAreaWrite, State.inPlanBody_of_route h hu, he, State.markChanged_some hl]

/-- Settles O12: a beat taken is routed (`State.Takes.exec_routed`), and its region's row asks it of the port. -/
theorem memoryBeats : Obligations.MemoryBeats := by
  intro s m a i n e d unit
  refine ⟨fun ht hroute => ?_, fun ht => ?_⟩
  · have hroute' : s.route (readBeat m a i n).unit = .ordinary ∨ s.route (readBeat m a i n).unit = .planArea := hroute
    have fits : s.route (readBeat m a i n).unit ≠ .beyond := by rcases hroute' with h | h <;> simp [h]
    rw [ht.exec_routed rfl rfl fits, State.routeBeat_read rfl (hroute'.imp_right .inl)]
    rfl
  intro store
  let b := writeBeat m a i n e d
  have write {t : State} {r : Route} (hroute : s.route b.unit = r) (hr : r ≠ .beyond)
      (h : s.routeBeat b = t.askStore false b) :
      exec (.frameBusWriteBeat m a i n e d) s = .next (store t).settle := by
    rw [ht.exec_routed rfl rfl (hroute.trans_ne hr), h]
    rfl
  refine ⟨fun hroute => write hroute (by simp) (State.routeBeat_ordinary_write rfl hroute), fun hroute =>
    ⟨fun l hl hu he => write hroute (by simp) (State.routeBeat_body_write rfl hroute hl hu he), fun hc =>
      write hroute (by simp) (State.routeBeat_plan_write rfl hroute hc)⟩⟩

end Sys2Proof.Machine

namespace Sys2Proof.Machine

/-! ### Request words (O24) -/

section RequestWord

variable {s : State}

/-- With no request in hand the word's request becomes it, and both beats of its record are asked (R176, log 38). -/
theorem State.takeRequest_free (h : s.bus.inHand = none) (v : BitVec 32) :
    s.takeRequest v = ((s.onBus fun f => { f with
      inHand := some ⟨(v.extractLsb' 16 16).toNat, (v.extractLsb' 0 16).toNat, RequestRecord.unread, .reading⟩ }).ask
        ⟨.recordRead 0, s.planBase + Config.requestRecordAt, none⟩).ask
        ⟨.recordRead 1, s.planBase + Config.requestRecordAt + 8, none⟩ := by
  simp only [State.takeRequest, h]

/-- A word that finds a request in hand is lost (R177). -/
theorem State.takeRequest_busy (h : s.bus.inHand ≠ none) (v : BitVec 32) : s.takeRequest v = s.loseRequest := by
  obtain ⟨q, hq⟩ := Option.ne_none_iff_exists'.1 h
  simp only [State.takeRequest, hq]

/-- A field of a control word is read from its beat's data, whose low half the word is (R174). -/
theorem controlValue_extractLsb' (data : Word) {start width : Nat} (h : start + width ≤ 32) :
    (controlValue data).extractLsb' start width = data.extractLsb' start width := by
  rw [controlValue]
  ext i hi
  have : start + i < 32 := by omega
  simp [this]

@[simp] theorem State.landed_planBase (unit : Nat) (after : StoredUnit) (found : Option EccCondition)
    (rest : List Access) : (s.landed unit after found rest).planBase = s.planBase := by
  rw [State.planBase, State.landed_straps]
  rfl

end RequestWord

/-- Settles O24: a word written whole is taken and a word written in part is lost (`State.CompletesWord`), and the landing
of the write leaves the request in hand as it is. -/
theorem requestWordTaken : Obligations.RequestWordTaken := by
  intro s unit b ready after found rest h hp hpair t lost
  have hword : s.CompletesWord .request b ready unit after found rest := h
  have hbus : t.bus = s.bus := s.landed_bus unit after found rest
  refine ⟨fun hw hfirst => ?_, fun hf hz => hword.partly hp hpair hf hz⟩
  have happens : exec .requestWord s = .next (t.takeRequest (controlValue b.data)).settle :=
    hword.taken hp hpair hw hfirst
  refine ⟨fun hfree => ?_, fun hbusy => ?_⟩
  · rw [happens, State.takeRequest_free (hbus ▸ hfree), controlValue_extractLsb' _ (by decide),
      controlValue_extractLsb' _ (by decide), State.landed_planBase]
    rfl
  · rw [happens, State.takeRequest_busy (hbus ▸ hbusy)]
    rfl

end Sys2Proof.Machine

namespace Sys2Proof.Machine

/-! ### Acknowledge and mask words (O26) -/

section NoticeWords

variable {s : State}

variable {unit : Nat} {after : StoredUnit} {found : Option EccCondition} {rest : List Access}

theorem State.landed_latched : (s.landed unit after found rest).notice.latched = s.notice.latched :=
  congrArg Kept.latched (State.countFound_kept _ _)

theorem State.landed_tiles : (s.landed unit after found rest).notice.tiles = s.notice.tiles :=
  State.countFound_tiles _ _

theorem State.onNotice_congr {f g : Notice → Notice} (h : f s.notice = g s.notice) : s.onNotice f = s.onNotice g := by
  rw [State.onNotice, h]
  rfl

/-- The word's acknowledge leaves TILE_ATTENTION while some tile is not NORMAL (R199). -/
theorem acknowledged_eq (latched named : BitVec 9) (attention : Bool) : acknowledged latched named attention =
    latched &&& ~~~(if attention then named &&& 0x0FF#9 else named) := rfl

theorem wordTouch_untouched {enables : BitVec 8} (hz : enables.extractLsb' 0 4 = 0#4) :
    wordTouch enables = .untouched := by
  simp [wordTouch, hz]

/-- A store that enables no byte of the control word leaves it (R174). -/
theorem State.wordStored_untouched {b : BusBeat} (hz : b.enables.extractLsb' 0 4 = 0#4) : s.wordStored b = s := by
  unfold State.wordStored
  rw [wordTouch_untouched hz]
  split
  · rfl
  · split <;> rfl

/-- A word not written whole that no part of a write acts on: only its store lands (R174). -/
theorem State.CompletesWord.unused {c : ControlWord} {b : BusBeat} {ready : Bool}
    (h : s.CompletesWord c b ready unit after found rest) (hp : s.part ≠ .bypass) (hpair : b.pair = false)
    (hf : b.enables.extractLsb' 0 4 ≠ 0xF#4) (hc : ∀ t : State, t.partWord c = t) :
    s.happen (s.wordEvent c) = .next (s.landed unit after found rest).settle := by
  by_cases hz : b.enables.extractLsb' 0 4 = 0#4
  · have takes_none : s.takesWord b = false := by simp [State.takesWord, wordTouch_untouched hz]
    rw [h.happen_wordEvent hpair (State.Completes.wordBlocked h takes_none), State.wordStored_untouched hz]
  · rw [h.partly hp hpair hf hz, hc]

end NoticeWords

/-- Settles O26: a word written whole is taken (`State.CompletesWord.taken`), the landing of the write leaving the latched
set and the tiles as they are, and one written otherwise does nothing (`State.CompletesWord.unused`). -/
theorem noticeWordsTaken : Obligations.NoticeWordsTaken := by
  intro s unit b ready after found rest hp hpair t named first
  have named_eq : causesOf (controlValue b.data) = named := controlValue_extractLsb' b.data (by decide)
  have latched_eq : t.notice.latched = s.notice.latched := State.landed_latched
  have tiles_eq : t.notice.tiles = s.notice.tiles := State.landed_tiles
  refine ⟨fun h => ?_, fun h => ?_⟩
  · have hword : s.CompletesWord .acknowledge b ready unit after found rest := h
    intro cleared latched
    refine ⟨fun hw hfirst => ?_, fun hf => hword.unused hp hpair hf fun _ => rfl⟩
    have acked : acknowledged t.notice.latched (causesOf (controlValue b.data)) t.notice.attention = latched := by
      rw [named_eq, acknowledged_eq, Notice.attention, latched_eq, tiles_eq]
    have happens : exec .acknowledgeWord s = .next (t.takeAck (controlValue b.data)).settle :=
      hword.taken hp hpair hw hfirst
    rw [happens, State.takeAck]
    congr 2
    refine State.onNotice_congr ?_
    rw [acked]
    rfl
  · have hword : s.CompletesWord .mask b ready unit after found rest := h
    refine ⟨fun hw hfirst => ?_, fun hf => hword.unused hp hpair hf fun _ => rfl⟩
    have happens : exec .maskWord s = .next (t.takeMask (controlValue b.data)).settle :=
      hword.taken hp hpair hw hfirst
    rw [happens, State.takeMask, named_eq]
    rfl

end Sys2Proof.Machine

namespace Sys2Proof.Machine

/-! ### The request record (O27) -/

/-! #### Two reads delivered together (R176, R188) -/

/-- What `State.deliverAll` delivers of an access. -/
def Access.delivery (pick : Job → Bool) (a : Access) : Option (Job × Word × EccCondition) :=
  if pick a.job then
    match a.kind with
    | .read data found => some (a.job, data, found)
    | .write _ _ => none
  else none

theorem State.deliverAll_eq (s : State) (pick : Job → Bool) : s.deliverAll pick =
    (s.port.inFlight.filterMap (Access.delivery pick),
      (s.port.inFlight.filterMap (Access.delivery pick)).foldl (fun t d => t.countFound d.2.2)
        (s.onPort fun p => { p with inFlight := s.port.inFlight.filter fun a => !(pick a.job && !a.isWrite) })) :=
  rfl

section Pair

variable {pick : Job → Bool} {l l1 l2 l3 : List Access} {j0 j1 : Job} {u0 u1 : Nat} {w0 w1 : Word}
  {f0 f1 : EccCondition}

theorem Access.delivery_read (h : pick j0 = true) : (⟨j0, u0, .read w0 f0⟩ : Access).delivery pick = some (j0, w0, f0) :=
  if_pos h

/-- Accesses of other jobs deliver nothing and stay in flight. -/
theorem delivery_none (h : ∀ x ∈ l, pick x.job = false) :
    l.filterMap (Access.delivery pick) = [] ∧ (l.filter fun a => !(pick a.job && !a.isWrite)) = l :=
  ⟨List.filterMap_eq_nil_iff.2 fun x hx => by simp [Access.delivery, h x hx],
    List.filter_eq_self.2 fun x hx => by simp [h x hx]⟩

/-- The only two reads of their jobs are delivered and counted in the order of their grants. -/
theorem State.deliverAll_pair {s : State}
    (hs : s.port.inFlight = l1 ++ ⟨j0, u0, .read w0 f0⟩ :: l2 ++ ⟨j1, u1, .read w1 f1⟩ :: l3) (h0 : pick j0 = true)
    (h1 : pick j1 = true) (hother : ∀ x ∈ l1 ++ l2 ++ l3, pick x.job = false) : s.deliverAll pick =
      ([(j0, w0, f0), (j1, w1, f1)],
        ((s.onPort fun p => { p with inFlight := l1 ++ l2 ++ l3 }).countFound f0).countFound f1) := by
  simp only [List.forall_mem_append] at hother
  obtain ⟨⟨other1, other2⟩, other3⟩ := hother
  obtain ⟨none1, kept1⟩ := delivery_none other1
  obtain ⟨none2, kept2⟩ := delivery_none other2
  obtain ⟨none3, kept3⟩ := delivery_none other3
  have got : s.port.inFlight.filterMap (Access.delivery pick) = [(j0, w0, f0), (j1, w1, f1)] := by
    simp [hs, none1, none2, none3, Access.delivery_read h0, Access.delivery_read h1]
  have rest : (s.port.inFlight.filter fun a => !(pick a.job && !a.isWrite)) = l1 ++ l2 ++ l3 := by
    rw [hs, List.filter_append, List.filter_append, List.filter_cons_of_neg (by simp [h0, Access.isWrite]),
      List.filter_cons_of_neg (by simp [h1, Access.isWrite]), kept1, kept2, kept3]
  rw [State.deliverAll_eq, got, rest]
  rfl

end Pair

/-! #### The record's fields (Table 12-7) -/

/-- The high half of a record's first unit. -/
theorem field_high_half (w : Word) (us : List Word) :
    field (bytesOf (w :: us)) 4 4 = (w.extractLsb' 32 32).toNat := by
  have : w.toNat < 2 ^ 64 := w.isLt
  simp [bytesOf_cons, field, Word.byte, BitVec.extractLsb'_toNat]
  omega

theorem RequestRecord.ofUnits_eq (w0 w1 : Word) : RequestRecord.ofUnits w0 w1 =
    ⟨(w0.byte 0).toNat, (w0.byte 1).toNat, (w0.byte 2).toNat, w0.extractLsb' 32 32, w1.extractLsb' 0 32⟩ := by
  have second : field (bytesOf [w0, w1]) 8 4 = (w1.extractLsb' 0 32).toNat :=
    (field_append (pre := bytesOf [w0]) (bytesOf_length w0) (bytesOf [w1]) 4).trans (field_marker w1)
  rw [RequestRecord.ofUnits, field_high_half, second, BitVec.ofNat_toNat, BitVec.ofNat_toNat, BitVec.setWidth_eq,
    BitVec.setWidth_eq]
  rfl

/-! #### Latching and dispatch (R176, R178) -/

section Record

variable {s t : State} {q : Request} {w0 w1 : Word} {f0 f1 : EccCondition}

theorem knownKind_iff {kind : Nat} : knownKind kind = true ↔ 1 ≤ kind ∧ kind ≤ 10 := by
  simp [knownKind]

theorem State.dispatch_known {r : RequestRecord} (h : knownKind q.kind = true) : s.dispatch q r =
    s.onBus fun f => { f with inHand := some { q with record := r, stage := .dispatched } } :=
  if_pos h

/-- A request of no kind is answered by the bus front, with its kind as written. -/
theorem State.dispatch_unknown {r : RequestRecord} (h : ¬knownKind q.kind = true) : s.dispatch q r =
    (s.onBus fun f => { f with inHand := some { q with record := r, stage := .replying } }).onNotice fun x =>
      { x with replyWaiting := some ⟨q.sequence, q.kind, .unknownKind, ⟨.none, 0, 0, 0, q.kind⟩⟩ } :=
  if_neg h

/-- The beats of the record, delivered in the order of their addresses, each with its damage (R176). -/
def recordBeats (w0 w1 : Word) (f0 f1 : EccCondition) : List (Job × Word × EccCondition) :=
  [(.recordRead 0, w0, f0), (.recordRead 1, w1, f1)]

theorem recordUnit_recordBeats : recordUnit 0 (recordBeats w0 w1 f0 f1) = (w0, decide (f0 = .uncorrectable)) ∧
    recordUnit 1 (recordBeats w0 w1 f0 f1) = (w1, decide (f1 = .uncorrectable)) := by
  simp [recordUnit, recordBeats]

/-- The record read: the lower damaged beat refuses the request, and with neither damaged it is dispatched. -/
theorem State.recordRead_eq (h : s.deliverAll isRecordRead = (recordBeats w0 w1 f0 f1, t)) : s.recordRead q =
    if f0 = .uncorrectable then t.reply .badArgument ⟨.request, 0, 1, 0, 0⟩
    else if f1 = .uncorrectable then t.reply .badArgument ⟨.request, 0, 9, 0, 0⟩
    else t.dispatch q (RequestRecord.ofUnits w0 w1) := by
  obtain ⟨first, second⟩ := recordUnit_recordBeats (w0 := w0) (w1 := w1) (f0 := f0) (f1 := f1)
  simp only [State.recordRead, h, first, second, decide_eq_true_eq]
  rfl

theorem State.exec_requestRecordReadDelivered (hr : s.inReset = false) (hq : s.bus.inHand = some q)
    (hstage : q.stage = .reading) (hasking : s.asking isRecordRead = false)
    (hend : canEndAll isRecordRead [] s.port.inFlight = true) :
    exec .requestRecordReadDelivered s = .next (s.recordRead q) := by
  change s.happen s.recordEvent = _
  simp [State.happen, State.recordEvent, hr, hq, hstage, hasking, hend]

end Record

/-- Settles O27: both beats are delivered together (`State.deliverAll_pair`), the damage of each decides
(`State.recordRead_eq`), and an undamaged record goes by its request's kind. -/
theorem recordDelivered : Obligations.RecordDelivered := by
  intro s q u0 u1 w0 w1 f0 f1 l1 l2 l3 hr hq hstage hasking hs hother hend t r
  have beats : s.deliverAll isRecordRead = (recordBeats w0 w1 f0 f1, t) := State.deliverAll_pair hs rfl rfl hother
  rw [State.exec_requestRecordReadDelivered hr hq hstage hasking hend, State.recordRead_eq beats,
    RequestRecord.ofUnits_eq]
  refine ⟨fun h0 => ?_, fun h0 h1 => ?_, fun h0 h1 hlo hhi => ?_, fun h0 h1 hk => ?_⟩
  · rw [if_pos h0]
  · rw [if_neg h0, if_pos h1]
  · rw [if_neg h0, if_neg h1, State.dispatch_known (knownKind_iff.2 ⟨hlo, hhi⟩)]
  · have unknown : ¬knownKind q.kind = true := fun h => by
      obtain ⟨hlo, hhi⟩ := knownKind_iff.1 h
      omega
    rw [if_neg h0, if_neg h1, State.dispatch_unknown unknown]

end Sys2Proof.Machine

namespace Sys2Proof.Machine

/-! ### What a command does to the fields that most operations leave alone

One relation, `State.Moves`, serves every command: memory moves as the relation given says (it stays, writes in flight
land, or the granted unit is upset), a right NOTICE stays right, and the fairness count stays within its bound. -/

/-- The commands that can move a field of `Kept`. -/
def movesKept : Instr → Bool
  | .resetRelease .. | .planBodyBeatDelivered _ | .restart | .portGrant _ => true
  | c => landsWrites c

/-- NOTICE is asserted exactly while some latched cause is unmasked (R198). -/
def Notice.Right (n : Notice) : Prop := n.line = noticeOf n.latched n.mask

/-- From `s` to `t` memory moves as `R` says, a right NOTICE stays right, and a fairness count within its bound stays
within it. -/
structure State.Moves (R : Memory → Memory → Prop) (s t : State) : Prop where
  mem : R s.mem t.mem
  notice : s.notice.Right → t.notice.Right
  fairness : s.port.fairness ≤ Config.fairLimit → t.port.fairness ≤ Config.fairLimit

namespace State.Moves

variable {R : Memory → Memory → Prop} {s t u : State}

/-- Of the fields most operations keep, memory alone has moved. -/
theorem of_mem (h : t.kept = { s.kept with mem := t.mem }) (hR : R s.mem t.mem) : s.Moves R t where
  mem := hR
  notice right := by
    have line : t.notice.line = s.notice.line := congrArg Kept.line h
    have latched : t.notice.latched = s.notice.latched := congrArg Kept.latched h
    have mask : t.notice.mask = s.notice.mask := congrArg Kept.mask h
    rw [Notice.Right, line, latched, mask]
    exact right
  fairness bound := (congrArg Kept.fairness h).trans_le bound

theorem of_kept (h : t.kept = s.kept) : s.Moves Eq t := by
  have mem : t.mem = s.mem := congrArg Kept.mem h
  exact of_mem (by rw [h, mem]; rfl) mem.symm

theorem trans (h : s.Moves R t) (h' : t.Moves Eq u) : s.Moves R u where
  mem := h'.mem ▸ h.mem
  notice := h'.notice ∘ h.notice
  fairness := h'.fairness ∘ h.fairness

/-- What follows leaves the fields alone. -/
theorem then_kept (h : s.Moves R t) (hk : u.kept = t.kept) : s.Moves R u := h.trans (of_kept hk)

end State.Moves

/-! #### Events -/

section Events

variable {s t : State} {P : State → Prop}

/-- What holds of the part and of the outcome of an event holds after the event's command. -/
theorem State.of_happen {x : Option State} (hs : P s) (hx : ∀ u ∈ x, P u) (ht : s.happen x = .next t) : P t := by
  obtain rfl : (if s.inReset then s else x.getD s) = t := Host.Outcome.next.inj ht
  split
  · exact hs
  · cases x with
    | none => exact hs
    | some u => exact hx u rfl

theorem forall_mem_bind {α : Type} {o : Option α} {f : α → Option State} (hf : ∀ a, ∀ u ∈ f a, P u) :
    ∀ u ∈ o.bind f, P u := by
  intro u hu
  obtain ⟨a, -, ha⟩ := Option.mem_bind_iff.1 hu
  exact hf a u ha

/-- What a requester makes of a delivered read keeps the fields when its own act does. -/
theorem State.deliverNth_map_kept {pick : Job → Bool} {n : Nat} {f : Access × Word × EccCondition × State → State}
    (hf : ∀ x, (f x).kept = x.2.2.2.kept) : ∀ u ∈ (s.deliverNth pick n).map f, u.kept = s.kept :=
  Option.forall_mem_map.2 fun x hx => (hf x).trans (State.deliverNth_kept hx)

theorem State.happen_kept {x : Option State} (hx : ∀ u ∈ x, u.kept = s.kept) (ht : s.happen x = .next t) :
    t.kept = s.kept := State.of_happen (P := fun u => u.kept = s.kept) rfl hx ht

/-- An owner's act on a request it has been given. -/
theorem State.happen_dispatched_kept {kind : Nat} {f : RequestRecord → State} (hf : ∀ r, (f r).kept = s.kept)
    (ht : s.happen ((s.dispatched kind).map f) = .next t) : t.kept = s.kept :=
  State.happen_kept (Option.forall_mem_map.2 fun r _ => hf r) ht

end Events

/-! #### The commands that move nothing of them -/

section Kept

variable {s t : State}

theorem State.present_kept {b : BusBeat} (ht : s.present b = .next t) : t.kept = s.kept := by
  unfold State.present at ht
  split at ht
  · cases ht
  · split at ht
    · exact Host.Outcome.next.inj ht ▸ rfl
    · exact Host.Outcome.next.inj ht ▸ s.arrive_kept b

theorem execHoldLimitExpiry_kept {m : Nat} (ht : execHoldLimitExpiry m s = .next t) : t.kept = s.kept := by
  unfold execHoldLimitExpiry at ht
  split at ht
  · exact Host.Outcome.next.inj ht ▸ rfl
  · split at ht
    · exact Host.Outcome.next.inj ht ▸ rfl
    · exact Host.Outcome.next.inj ht ▸ s.loseHeld_kept _

theorem State.viewEvent_kept (n : Nat) : ∀ u ∈ s.viewEvent n, u.kept = s.kept := by
  refine State.deliverNth_map_kept fun x => ?_
  split
  · simp
  · rfl

theorem State.fillEvent_kept : ∀ u ∈ s.fillEvent, u.kept = s.kept := by
  refine State.deliverNth_map_kept fun x => ?_
  split
  · split
    · simp
    · rfl
  · rfl

theorem State.calEvent_kept (n : Nat) : ∀ u ∈ s.calEvent n, u.kept = s.kept := by
  refine State.deliverNth_map_kept fun x => ?_
  split <;> simp

theorem State.searchEvent_kept : ∀ u ∈ s.searchEvent, u.kept = s.kept := by
  refine State.deliverNth_map_kept fun x => ?_
  split
  · simp
  · rfl

theorem State.renderReadEvent_kept (n : Nat) : ∀ u ∈ s.renderReadEvent n, u.kept = s.kept := by
  refine State.deliverNth_map_kept fun x => ?_
  split
  · simp
  · rfl

theorem State.recordEvent_kept : ∀ u ∈ s.recordEvent, u.kept = s.kept := by
  unfold State.recordEvent
  split
  · simp
  · split <;> simp

theorem State.choiceEvent_kept : ∀ u ∈ s.choiceEvent, u.kept = s.kept := by
  unfold State.choiceEvent
  split
  · simp
  · exact Option.forall_mem_map.2 fun i _ => s.askWriteBack_kept i

theorem State.applyEvent_kept : ∀ u ∈ s.applyEvent, u.kept = s.kept := by
  unfold State.applyEvent
  split <;> simp

theorem State.presentEvent_kept : ∀ u ∈ s.presentEvent, u.kept = s.kept := by
  unfold State.presentEvent
  split
  · simp
  · split
    · simp
    · exact Option.forall_mem_map.2 fun x _ => by simp

theorem State.attemptEvent_kept : ∀ u ∈ s.attemptEvent, u.kept = s.kept := by
  refine forall_mem_bind fun c => ?_
  split <;> simp

theorem State.readDoneEvent_kept : ∀ u ∈ s.readDoneEvent, u.kept = s.kept := by
  refine forall_mem_bind fun a => ?_
  split <;> simp

theorem State.timerEvent_kept (bank : Nat) : ∀ u ∈ s.timerEvent bank, u.kept = s.kept := by
  refine forall_mem_bind fun r => ?_
  split <;> simp

theorem State.reportEvent_kept : ∀ u ∈ s.reportEvent, u.kept = s.kept := by
  unfold State.reportEvent
  split <;> simp

theorem State.replyStartEvent_kept : ∀ u ∈ s.replyStartEvent, u.kept = s.kept := by
  unfold State.replyStartEvent
  split
  · exact Option.forall_mem_map.2 fun r _ => s.startReply_kept r
  · simp

theorem State.statusStartEvent_kept : ∀ u ∈ s.statusStartEvent, u.kept = s.kept := by
  unfold State.statusStartEvent
  split <;> simp

theorem execDiscardProduct_kept (ht : execDiscardProduct s = .next t) : t.kept = s.kept := by
  refine State.happen_kept (forall_mem_bind fun r => ?_) ht
  split <;> simp

theorem execHaltJob_kept (ht : execHaltJob s = .next t) : t.kept = s.kept := by
  refine State.happen_kept (forall_mem_bind fun r => ?_) ht
  split <;> simp

/-- Every other command leaves all of these fields alone. -/
theorem exec_kept {c : Instr} (hc : movesKept c = false) (ht : exec c s = .next t) : t.kept = s.kept := by
  cases c with
  | frameBusReadBeat | frameBusWriteBeat | rawWriteBeat | cellReadBeat | cellWriteBeat | protectedWriteBeat | lockedRead
  | viewReadBeat | viewWriteBeat => exact State.present_kept ht
  | holdLimitExpiry => exact execHoldLimitExpiry_kept ht
  | viewPositionDelivered n => exact State.happen_kept (State.viewEvent_kept n) ht
  | commitPlan => exact State.happen_dispatched_kept s.takeCommit_kept ht
  | openProduct => exact State.happen_dispatched_kept s.takeOpen_kept ht
  | freezeProduct => exact State.happen_dispatched_kept (by simp) ht
  | thawProduct => exact State.happen_dispatched_kept s.takeThaw_kept ht
  | renderProduct => exact State.happen_dispatched_kept s.takeRender_kept ht
  | discardProduct => exact execDiscardProduct_kept ht
  | haltJob => exact execHaltJob_kept ht
  | abortExposure => exact State.happen_dispatched_kept (by simp) ht
  | abortSearchReadDelivered => exact State.happen_kept State.searchEvent_kept ht
  | releaseTile => exact State.happen_dispatched_kept s.takeRelease_kept ht
  | writeBackChoice => exact State.happen_kept State.choiceEvent_kept ht
  | rowApplyStart => exact State.happen_kept State.applyEvent_kept ht
  | pixelPresent => exact State.happen_kept State.presentEvent_kept ht
  | mergeFillDelivered => exact State.happen_kept State.fillEvent_kept ht
  | calFetchBeatDelivered n => exact State.happen_kept (State.calEvent_kept n) ht
  | activationAttempt => exact State.happen_kept State.attemptEvent_kept ht
  | descriptorReadDone => exact State.happen_kept State.readDoneEvent_kept ht
  | completionTimerExpiry bank => exact State.happen_kept (State.timerEvent_kept bank) ht
  | reportWriteStart => exact State.happen_kept State.reportEvent_kept ht
  | renderReadDelivered n => exact State.happen_kept (State.renderReadEvent_kept n) ht
  | replyWriteStart => exact State.happen_kept State.replyStartEvent_kept ht
  | statusWriteStart => exact State.happen_kept State.statusStartEvent_kept ht
  | requestRecordReadDelivered => exact State.happen_kept State.recordEvent_kept ht
  | _ => cases hc

end Kept

end Sys2Proof.Machine

namespace Sys2Proof.Machine

/-! ### Writes in flight that land -/

/-- `m'` is `m` but where writes of `l` land: the canonical form stays, and bytes and check bits that no write of `l`
stores to. -/
structure Memory.Lands (l : List Access) (m m' : Memory) : Prop where
  wf : m.wf = true → m'.wf = true
  byte : ∀ a, (∀ x ∈ l, x.isWrite = true → a < x.unit ∨ x.unit + 8 ≤ a) → m'.readByte a = m.readByte a
  condition : ∀ u, (∀ x ∈ l, x.isWrite = true → x.unit ≠ u) → m'.condition u = m.condition u

namespace Memory.Lands

variable {l l' : List Access} {m m' m'' : Memory}

theorem refl (l : List Access) (m : Memory) : Lands l m m := ⟨id, fun _ _ => rfl, fun _ _ => rfl⟩

theorem trans (h : Lands l m m') (h' : Lands l m' m'') : Lands l m m'' where
  wf := h'.wf ∘ h.wf
  byte a ha := (h'.byte a ha).trans (h.byte a ha)
  condition u hu := (h'.condition u hu).trans (h.condition u hu)

theorem mono (h : Lands l m m') (hl : l ⊆ l') : Lands l' m m' where
  wf := h.wf
  byte a ha := h.byte a fun x hx => ha x (hl hx)
  condition u hu := h.condition u fun x hx => hu x (hl hx)

/-- A unit stored that a write of the list stores to. -/
theorem writeUnit {x : Access} (hx : x ∈ l) (hw : x.isWrite = true) (m : Memory) (v : StoredUnit) :
    Lands l m (m.writeUnit x.unit v) where
  wf := m.writeUnit_wf _ v
  byte _ ha := m.readByte_writeUnit_other _ v _ (ha x hx hw)
  condition _ hu := m.condition_writeUnit_other _ v (hu x hx hw).symm

/-- Of the writes in flight, hardware reset lets some land (log 6). -/
theorem reachAll (lost : List Nat) (n : Nat) (l : List Access) (m : Memory) : Lands l m (reachAll lost n l m) := by
  induction l generalizing lost n m with
  | nil => exact refl _ m
  | cons x l ih =>
    have later (lost n m) : Lands (x :: l) m (Machine.reachAll lost n l m) :=
      (ih lost n m).mono (List.subset_cons_self _ _)
    simp only [Machine.reachAll]
    split
    · exact later _ _ _
    · next hk =>
      split
      · exact (writeUnit List.mem_cons_self (by simp [Access.isWrite, hk]) m _).trans (later _ _ _)
      · exact later _ _ _

end Memory.Lands

theorem Access.isWrite_of_writesTo {u : Nat} {x : Access} (h : x.writesTo u = true) : x.isWrite = true ∧ x.unit = u := by
  simpa [Access.writesTo] using h

/-- From `s` to `t` writes in flight have landed, and nothing else has joined those in flight. -/
structure State.LandsTo (s t : State) : Prop where
  moves : s.Moves (Memory.Lands s.port.inFlight) t
  inFlight : t.port.inFlight ⊆ s.port.inFlight

section Landing

variable {s t u : State}

theorem State.LandsTo.refl (s : State) : s.LandsTo s := ⟨⟨.refl _ _, id, id⟩, List.Subset.refl _⟩

theorem State.LandsTo.trans (h : s.LandsTo t) (h' : t.LandsTo u) : s.LandsTo u where
  moves :=
    { mem := h.moves.mem.trans (h'.moves.mem.mono h.inFlight)
      notice := h'.moves.notice ∘ h.moves.notice
      fairness := h'.moves.fairness ∘ h.moves.fairness }
  inFlight := List.Subset.trans h'.inFlight h.inFlight

theorem State.landNth_landsTo {pick : Job → Bool} {n : Nat} {a : Access} (h : s.landNth pick n = some (a, t)) :
    s.LandsTo t := by
  obtain ⟨before, later, after, found, hs, -, hk, -, rfl⟩ := State.landNth_some h
  refine ⟨.of_mem (by rw [State.countFound_kept]; simp [State.kept]) ?_, ?_⟩
  · rw [State.countFound_mem]
    exact .writeUnit (by simp [hs]) (by simp [Access.isWrite, hk]) s.mem after
  · rw [State.countFound_inFlight, hs]
    exact List.append_subset.2 ⟨List.subset_append_of_subset_left _ (List.filter_subset_self _),
      List.subset_append_of_subset_right _ (List.subset_cons_self _ _)⟩

theorem State.landAll_landsTo (s : State) (pick : Job → Bool) (n : Nat) : s.LandsTo (s.landAll pick n) := by
  induction n generalizing s with
  | zero => exact .refl s
  | succ n ih =>
    simp only [State.landAll]
    split
    · exact .refl s
    · next ht => exact (State.landNth_landsTo ht).trans (ih _)

/-- The unreported writes that complete ahead of a read's delivery are writes in flight to the unit read (log 11). -/
theorem State.landBefore_moves (s : State) (pick : Job → Bool) (n : Nat) :
    s.Moves (Memory.Lands s.port.inFlight) (s.landBefore pick n) := by
  refine .of_mem (s.landBefore_kept pick n).1 ?_
  unfold State.landBefore
  split
  · exact .refl _ _
  · next before a later hp =>
    split
    · exact .refl _ _
    · next hw =>
      simp only [Bool.or_eq_true, Bool.not_eq_true', not_or, Bool.not_eq_false, List.any_eq_true] at hw
      obtain ⟨-, x, hx, hxa⟩ := hw
      obtain ⟨write, unit⟩ := Access.isWrite_of_writesTo hxa
      have flying : x ∈ s.port.inFlight := by
        rw [(pickNth_some hp).1]
        exact List.mem_append_left _ hx
      rw [← unit]
      exact .writeUnit flying write s.mem _

/-! #### The words that a completed frame bus write can hand over -/

theorem State.takeAck_moves (v : BitVec 32) : s.Moves Eq (s.takeAck v) := ⟨rfl, fun _ => rfl, id⟩

theorem State.takeMask_moves (v : BitVec 32) : s.Moves Eq (s.takeMask v) := ⟨rfl, fun _ => rfl, id⟩

theorem State.takeWord_moves (c : ControlWord) (v : BitVec 32) : s.Moves Eq (s.takeWord c v) := by
  cases c with
  | request => exact .of_kept (s.takeRequest_kept v)
  | post => exact .of_kept (s.takePost_kept _)
  | acknowledge => exact State.takeAck_moves v
  | mask => exact State.takeMask_moves v

theorem State.wordStored_moves (b : BusBeat) : s.Moves Eq (s.wordStored b) := by
  unfold State.wordStored
  split
  · exact .of_kept rfl
  · split
    · exact .of_kept rfl
    · split
      · exact State.takeWord_moves _ _
      · exact .of_kept (s.partWord_kept _)
      · exact .of_kept rfl

theorem State.storeDone_moves (b : BusBeat) : s.Moves Eq (s.storeDone b) := by
  refine (State.wordStored_moves b).then_kept ?_
  simp [State.storeDone, ite_kept]

/-! #### The commands whose step can complete writes -/

/-- What a requester makes of a completed write. -/
theorem State.landNth_map_moves {pick : Job → Bool} {n : Nat} {f : Access × State → State}
    (hf : ∀ x : Access × State, x.2.Moves Eq (f x)) :
    ∀ u ∈ (s.landNth pick n).map f, s.Moves (Memory.Lands s.port.inFlight) u :=
  Option.forall_mem_map.2 fun x hx => (State.landNth_landsTo hx).moves.trans (hf x)

theorem State.busReadEvent_moves (n : Nat) :
    ∀ u ∈ s.busReadEvent n, s.Moves (Memory.Lands s.port.inFlight) u := by
  intro u hu
  have kept : u.kept = (s.landBefore isBusRead n).kept := by
    refine State.deliverNth_map_kept (fun x => ?_) u hu
    split
    · simp
    · rfl
  exact (s.landBefore_moves isBusRead n).then_kept kept

theorem State.busWriteEvent_moves (pick : Job → Bool) (n : Nat) :
    ∀ u ∈ s.busWriteEvent pick n, s.Moves (Memory.Lands s.port.inFlight) u := by
  unfold State.busWriteEvent
  split
  · simp
  · refine State.landNth_map_moves fun x => ?_
    split
    · exact State.storeDone_moves _
    · exact .of_kept rfl

theorem State.writeBackEvent_moves (n : Nat) :
    ∀ u ∈ s.writeBackEvent n, s.Moves (Memory.Lands s.port.inFlight) u := by
  refine State.landNth_map_moves fun x => .of_kept ?_
  split
  · simp
  · rfl

theorem State.clearEvent_moves (n : Nat) : ∀ u ∈ s.clearEvent n, s.Moves (Memory.Lands s.port.inFlight) u :=
  State.landNth_map_moves fun x => .of_kept (by simp)

theorem State.renderWriteEvent_moves (n : Nat) :
    ∀ u ∈ s.renderWriteEvent n, s.Moves (Memory.Lands s.port.inFlight) u :=
  State.landNth_map_moves fun x => .of_kept (by simp)

theorem State.replyEvent_moves : ∀ u ∈ s.replyEvent, s.Moves (Memory.Lands s.port.inFlight) u := by
  have landed := (s.landAll_landsTo isReplyUnit s.port.inFlight.length).moves.then_kept (State.replyDone_kept _)
  refine forall_mem_bind fun w => ?_
  split <;> simp [landed]

theorem State.finishStatus_moves (w : StatusWrite) : s.Moves Eq (s.finishStatus w) := ⟨rfl, fun _ => rfl, id⟩

theorem State.statusEvent_moves : ∀ u ∈ s.statusEvent, s.Moves (Memory.Lands s.port.inFlight) u := by
  have landed := (s.landAll_landsTo isReportUnit (reportsBefore s.port.inFlight)).trans
    (State.landAll_landsTo _ isStatusUnit s.port.inFlight.length)
  refine forall_mem_bind fun w => ?_
  split
  · simpa using landed.moves.trans (State.finishStatus_moves w)
  · simp

theorem State.hardReset_moves (s : State) : s.Moves (Memory.Lands s.port.inFlight) s.hardReset where
  mem := .reachAll _ _ _ _
  notice _ := by
    change false = noticeOf 0#9 0x1FF#9
    decide
  fairness _ := Nat.zero_le _

theorem State.happen_lands {x : Option State} (hx : ∀ u ∈ x, s.Moves (Memory.Lands s.port.inFlight) u)
    (ht : s.happen x = .next t) : s.Moves (Memory.Lands s.port.inFlight) t :=
  State.of_happen (State.LandsTo.refl s).moves hx ht

/-- A command that can complete writes moves memory only where writes in flight land. -/
theorem exec_lands {c : Instr} (hc : landsWrites c = true) (ht : exec c s = .next t) :
    s.Moves (Memory.Lands s.port.inFlight) t := by
  cases c with
  | resetAssert =>
    obtain rfl := Host.Outcome.next.inj ht
    split
    · exact (State.LandsTo.refl s).moves
    · exact s.hardReset_moves
  | frameBusReadDelivered n => exact State.happen_lands (State.busReadEvent_moves n) ht
  | frameBusWriteComplete n => exact State.happen_lands (State.busWriteEvent_moves _ n) ht
  | requestWord | postWord | acknowledgeWord | maskWord =>
    exact State.happen_lands (State.busWriteEvent_moves _ 0) ht
  | writeBackComplete n => exact State.happen_lands (State.writeBackEvent_moves n) ht
  | clearWriteComplete n => exact State.happen_lands (State.clearEvent_moves n) ht
  | renderWriteComplete n => exact State.happen_lands (State.renderWriteEvent_moves n) ht
  | replyWriteComplete => exact State.happen_lands State.replyEvent_moves ht
  | statusWriteComplete => exact State.happen_lands State.statusEvent_moves ht
  | _ => cases hc

end Landing

end Sys2Proof.Machine

namespace Sys2Proof.Machine

/-! ### The other commands that move a kept field: release, plan body, RESTART and the grant -/

section Moving

variable {s t : State}

theorem State.released_moves (bypass : Bool) (planSel memSize : BitVec 2) :
    s.Moves Eq (s.released bypass planSel memSize) := ⟨rfl, id, id⟩

theorem State.install_moves (p : Plan) (g : Nat) : s.Moves Eq (s.install p g) := by
  have cleared (o o' : Nat) : s.Moves Eq (State.clearLate o' p.bank1 1 (State.clearLate o p.bank0 0 s)) :=
    .of_kept (by simp)
  unfold State.install
  exact (cleared _ _).trans ⟨rfl, id, id⟩

theorem State.recordOutcome_kept (s : State) (immediate : Bool) (o : ReplyOutcome) (d : Detail) :
    (s.recordOutcome immediate o d).kept = s.kept := by
  unfold State.recordOutcome
  dsimp only
  split
  · rw [State.reply_kept]; rfl
  · rw [State.raise_kept]; rfl

theorem State.finishLoad_moves (l : Load) : s.Moves Eq (s.finishLoad l) := by
  unfold State.finishLoad
  refine State.Moves.then_kept ?_ (State.recordOutcome_kept _ _ _ _)
  split
  · exact State.install_moves _ _
  · exact .of_kept rfl

theorem State.planDelivered_moves (k : Nat) (w : Word) (c : EccCondition) : s.Moves Eq (s.planDelivered k w c) := by
  unfold State.planDelivered
  split
  · exact .of_kept rfl
  · dsimp only
    split
    · exact State.finishLoad_moves _
    · exact ⟨rfl, id, id⟩

theorem State.planEvent_moves (n : Nat) : ∀ u ∈ s.planEvent n, s.Moves Eq u := by
  refine Option.forall_mem_map.2 fun x hx => ?_
  have delivered : s.Moves Eq x.2.2.2 := .of_kept (State.deliverNth_kept hx)
  split
  · exact (delivered.trans (State.planDelivered_moves _ _ _)).then_kept (State.settle_kept _)
  · exact delivered

/-- A RESTART latches no cause and deasserts NOTICE with it (R202). -/
theorem State.restartNotices_moves : s.Moves Eq s.restartNotices := by
  have cleared (n : Notice) : ({ n with latched := 0#9, line := false } : Notice).Right := by
    simp [Notice.Right, noticeOf]
  have noticed (f : Notice → Notice) (hf : (f s.notice).Right) : s.Moves Eq (s.onNotice f) := ⟨rfl, fun _ => hf, id⟩
  unfold State.restartNotices
  dsimp only
  split
  · exact (noticed _ (cleared _)).then_kept (State.raise_kept _ _)
  · exact noticed _ (cleared _)

theorem State.takeRestart_moves : s.Moves Eq s.takeRestart := by
  have taken : s.Moves Eq (s.keepInHand 0) := .of_kept (s.keepInHand_kept 0)
  exact (taken.trans State.restartNotices_moves).then_kept (by simp [State.takeRestart])

/-! #### The grant (R183, R184, log 4) -/

theorem State.granted_moves (a : Ask) : s.Moves Eq (s.granted a) :=
  ⟨rfl, id, fairnessAfter_le _ _ _⟩

/-- A grant is of the ask chosen, in the part whose unit the upset has changed. -/
theorem State.grantEvent_kept {x : Option Upset} {u : State} (hu : u ∈ s.grantEvent x) :
    ∃ a, s.nextAsk = some a ∧ u.kept = ((s.applyUpset a.unit x).granted a).kept := by
  obtain ⟨a, ha, rfl⟩ := Option.mem_map.1 hu
  exact ⟨a, ha, by simp⟩

/-- An upset changes the unit it reaches, or with a write of that unit in flight the write alone (log 4). -/
theorem State.applyUpset_mem (s : State) (u : Nat) (x : Option Upset) :
    (s.applyUpset u x).mem = s.mem ∨ ∃ v, (s.applyUpset u x).mem = s.mem.writeUnit u v := by
  unfold State.applyUpset
  split
  · exact .inl rfl
  · dsimp only
    split
    · exact .inl rfl
    · exact .inr ⟨_, rfl⟩

/-- `m'` is `m` but for the unit of the ask that `s` grants next. -/
def State.UpsetsOnly (s : State) (m m' : Memory) : Prop :=
  m' = m ∨ ∃ a v, s.nextAsk = some a ∧ m' = m.writeUnit a.unit v

theorem exec_portGrant_upsets {x : Option Upset} (ht : exec (.portGrant x) s = .next t) : s.Moves s.UpsetsOnly t := by
  refine State.of_happen (x := s.grantEvent x) ⟨.inl rfl, id, id⟩ (fun u hu => ?_) ht
  obtain ⟨a, ha, hk⟩ := State.grantEvent_kept hu
  have upset : s.Moves s.UpsetsOnly (s.applyUpset a.unit x) :=
    .of_mem (s.applyUpset_kept a.unit x) ((s.applyUpset_mem a.unit x).imp_right fun ⟨v, hv⟩ => ⟨a, v, ha, hv⟩)
  exact (upset.trans (State.granted_moves a)).then_kept hk

/-- Without an upset a grant leaves memory alone. -/
theorem exec_portGrant_none (ht : exec (.portGrant none) s = .next t) : s.Moves Eq t := by
  refine State.of_happen (x := s.grantEvent none) (.of_kept rfl) (fun u hu => ?_) ht
  obtain ⟨a, -, hk⟩ := State.grantEvent_kept hu
  exact (State.granted_moves a).then_kept hk

/-- A command that completes no write and brings no upset leaves memory alone: of those that `movesKept` names beside
the completing ones, each by its own lemma. -/
theorem exec_moves {c : Instr} (hc : landsWrites c = false) (hg : ∀ x, c ≠ .portGrant (some x))
    (ht : exec c s = .next t) : s.Moves Eq t := by
  by_cases hk : movesKept c = false
  · exact .of_kept (exec_kept hk ht)
  · cases c with
    | resetRelease bypass planSel memSize =>
      obtain rfl := Host.Outcome.next.inj ht
      split
      · exact State.released_moves _ _ _
      · exact .of_kept rfl
    | planBodyBeatDelivered n => exact State.of_happen (.of_kept rfl) (State.planEvent_moves n) ht
    | restart =>
      exact State.of_happen (.of_kept rfl) (Option.forall_mem_map.2 fun _ _ => State.takeRestart_moves) ht
    | portGrant x =>
      cases x with
      | none => exact exec_portGrant_none ht
      | some x => exact absurd rfl (hg x)
    | _ => exact absurd hc hk

end Moving

/-! ### The invariant that every step keeps (O2) -/

theorem State.Sound.of_moves {R : Memory → Memory → Prop} {s t : State} (h : s.Sound) (m : s.Moves R t)
    (hR : R s.mem t.mem → s.mem.wf = true → t.mem.wf = true) : t.Sound :=
  ⟨hR m.mem h.memory, m.notice h.notice, m.fairness h.fairness⟩

theorem State.UpsetsOnly.wf {s : State} {m m' : Memory} (h : s.UpsetsOnly m m') (w : m.wf = true) : m'.wf = true := by
  obtain rfl | ⟨a, v, -, rfl⟩ := h
  · exact w
  · exact m.writeUnit_wf _ v w

/-- No command breaks the canonical form of memory, NOTICE or the fairness bound. -/
theorem State.Sound.exec {s t : State} (h : s.Sound) {c : Instr} (ht : exec c s = .next t) : t.Sound := by
  by_cases hl : landsWrites c = true
  · exact h.of_moves (exec_lands hl ht) Memory.Lands.wf
  · by_cases hg : ∃ x, c = .portGrant (some x)
    · obtain ⟨x, rfl⟩ := hg
      exact h.of_moves (exec_portGrant_upsets ht) State.UpsetsOnly.wf
    · exact h.of_moves (exec_moves (Bool.eq_false_iff.2 hl) (not_exists.1 hg) ht) fun same w => same ▸ w

/-- Settles O2: a step is `exec` on the front command, and every command keeps the invariant (`State.Sound.exec`). -/
theorem soundKept : Obligations.SoundKept := by
  intro s t h ht
  unfold step at ht
  split at ht
  · exact Host.Outcome.next.inj ht ▸ h
  · next c rest _ =>
    have queued : (s.setPending rest).Sound := { h with }
    exact queued.exec ht

/-! ### Where memory changes (O8) -/

theorem State.UpsetsOnly.readByte {s : State} {m m' : Memory} (h : s.UpsetsOnly m m') {a : Nat}
    (ha : ∀ k, s.nextAsk = some k → a < k.unit ∨ k.unit + 8 ≤ a) : m'.readByte a = m.readByte a := by
  obtain rfl | ⟨k, v, hk, rfl⟩ := h
  · rfl
  · exact m.readByte_writeUnit_other _ v a (ha k hk)

theorem State.UpsetsOnly.condition {s : State} {m m' : Memory} (h : s.UpsetsOnly m m') {u : Nat}
    (hu : ∀ k, s.nextAsk = some k → k.unit ≠ u) : m'.condition u = m.condition u := by
  obtain rfl | ⟨k, v, hk, rfl⟩ := h
  · rfl
  · exact m.condition_writeUnit_other _ v (hu k hk).symm

/-- Settles O8: a command leaves memory alone (`exec_moves`), lands writes in flight (`exec_lands`), or brings an upset
(`exec_portGrant_upsets`). -/
theorem frameMemory : Obligations.FrameMemory := by
  intro c s t ht
  refine ⟨fun hl hg => (exec_moves hl hg ht).mem.symm, fun hl => ?_, ?_⟩
  · have lands := (exec_lands hl ht).mem
    exact ⟨lands.byte, lands.condition⟩
  · rintro x rfl
    have upsets := (exec_portGrant_upsets ht).mem
    exact ⟨fun a => upsets.readByte, fun u => upsets.condition⟩

/-! ### The fairness count after a grant (O38) -/

section Fairness

variable {s t : State} {a : Ask}

/-- Some ask of the list waits at rank 3. -/
def State.waits3 (s : State) (l : List Ask) : Bool := l.any fun y => decide (s.rank y.job = 3)

theorem State.waits3_iff {l : List Ask} : s.waits3 l = true ↔ ∃ y ∈ l, s.rank y.job = 3 := by
  simp [State.waits3]

/-- An upset moves neither the ranks nor the asks nor the count. -/
theorem State.granted_fairness (s : State) (a : Ask) (x : Option Upset) :
    ((s.applyUpset a.unit x).granted a).port.fairness =
      fairnessAfter s.port.fairness (s.rank a.job) (s.waits3 (s.port.asks.erase a)) := by
  unfold State.applyUpset
  split
  · rfl
  · dsimp only
    split <;> rfl

theorem exec_portGrant_fairness {x : Option Upset} (hr : s.inReset = false) (ha : s.nextAsk = some a)
    (ht : exec (.portGrant x) s = .next t) :
    t.port.fairness = fairnessAfter s.port.fairness (s.rank a.job) (s.waits3 (s.port.asks.erase a)) := by
  have outcome : ((((s.applyUpset a.unit x).granted a).afterGrant a.job).settle) = t := by
    change s.happen (s.grantEvent x) = _ at ht
    simpa [State.happen, hr, State.grantEvent, ha] using ht
  have kept : t.kept = ((s.applyUpset a.unit x).granted a).kept := by simp [← outcome]
  exact (congrArg Kept.fairness kept).trans (s.granted_fairness a x)

/-- An ask below rank 3 is chosen by the highest rank alone, so that none waits at rank 3 (R183). -/
theorem State.nextAsk_low (ha : s.nextAsk = some a) (h4 : 4 ≤ s.rank a.job) : ∀ y ∈ s.port.asks, s.rank y.job ≠ 3 := by
  rcases State.nextAsk_cases ha with ⟨-, h2⟩ | ⟨-, hc, -⟩ | ⟨-, -, h3, -⟩
  · have := (State.headOf_eq_some_iff.1 h2).1
    omega
  · intro y hy
    have := (State.highest_some hc).2 y hy
    omega
  · have := (State.headOf_eq_some_iff.1 h3).1
    omega

/-- R184: an ask that passes over none at rank 3 clears the count. -/
theorem fairnessAfter_clear (count : Nat) {rank : Nat} (h1 : rank ≠ 1) : fairnessAfter count rank false = 0 := by
  simp [fairnessAfter, h1]

end Fairness

/-- Settles O38: the count is `fairnessAfter`'s (`exec_portGrant_fairness`), case by case, and a low rank is granted only
when none waits at rank 3 (`State.nextAsk_low`). -/
theorem fairnessMoves : Obligations.FairnessMoves := by
  intro s t a x hr ha ht waits
  have clear (h1 : s.rank a.job ≠ 1) (hw : ¬waits) : t.port.fairness = 0 := by
    rw [exec_portGrant_fairness hr ha ht, Bool.eq_false_iff.2 (mt State.waits3_iff.1 hw), fairnessAfter_clear _ h1]
  refine ⟨fun h2 hw => ?_, fun h3 => ?_, fun h1 => ?_, fun h1 _ hw => clear h1 hw, fun h4 => ?_⟩
  · rw [exec_portGrant_fairness hr ha ht, State.waits3_iff.2 hw, h2]
    rfl
  · rw [exec_portGrant_fairness hr ha ht, h3]
    rfl
  · rw [exec_portGrant_fairness hr ha ht, h1]
    rfl
  · have none_waits : ¬waits := fun ⟨y, hy, h3⟩ => State.nextAsk_low ha h4 y (List.mem_of_mem_erase hy) h3
    exact ⟨none_waits, clear (by omega) none_waits⟩

/-! ### The order of accesses to a unit, and what a write makes of it (O41) -/

section Unit

variable {stored : StoredUnit} {u : Nat}

/-- Accesses granted later find what those granted earlier leave (R186). -/
theorem unitAfter_append (l1 l2 : List Access) :
    unitAfter stored u (l1 ++ l2) = unitAfter (unitAfter stored u l1) u l2 := by
  induction l1 generalizing stored with
  | nil => rfl
  | cons x l ih =>
    simp only [List.cons_append, unitAfter]
    split <;> exact ih

/-- Writes of other units and reads leave a unit as it is. -/
theorem unitAfter_unwritten {l : List Access} (h : ∀ x ∈ l, x.isWrite = true → x.unit ≠ u) :
    unitAfter stored u l = stored := by
  induction l generalizing stored with
  | nil => rfl
  | cons x l ih =>
    have later := fun v => ih (stored := v) fun y hy => h y (List.mem_cons_of_mem _ hy)
    simp only [unitAfter]
    split
    · next hk =>
      have other : x.unit ≠ u := h x List.mem_cons_self (by simp [Access.isWrite, hk])
      rw [if_neg other, later]
    · exact later stored

/-- The last granted write of a unit is what it then holds (R186). -/
theorem unitAfter_last_write (l1 : List Access) (job : Job) (after : StoredUnit) (found : Option EccCondition)
    {l2 : List Access} (h : ∀ x ∈ l2, x.isWrite = true → x.unit ≠ u) :
    unitAfter stored u (l1 ++ ⟨job, u, .write after found⟩ :: l2) = after := by
  rw [unitAfter_append]
  simp [unitAfter, unitAfter_unwritten h]

theorem mergeBytes_byte (enables : BitVec 8) (new old : Word) {j : Nat} (hj : j < 8) :
    (mergeBytes enables new old).byte j = if enables.getLsbD j then new.byte j else old.byte j :=
  Word.byte_ofBytes _ j hj

/-- A partial write merges the enabled bytes into what it reads, and an uncorrectable unit stays marked so (R187). -/
theorem writeResult_partial (old : StoredUnit) {enables : BitVec 8} (data : Word) (hwhole : enables ≠ 0xFF#8)
    (hnone : enables ≠ 0#8) : writeResult old ⟨enables, data⟩ =
      (⟨mergeBytes enables data old.data, if old.condition = .uncorrectable then .uncorrectable else .correct⟩,
        some old.condition) := by
  rw [writeResult, if_neg hwhole, if_neg hnone]
  cases old.condition <;> rfl

end Unit

/-- Settles O41: the accesses in flight by `unitAfter_unwritten` and `unitAfter_last_write`, and a write by
`writeResult_whole` and `writeResult_partial`. -/
theorem unitOrder : Obligations.UnitOrder := by
  refine ⟨fun s u => ⟨unitAfter_unwritten, fun l1 l2 job after found hs h => ?_⟩, fun old enables data => ⟨?_, ?_⟩⟩
  · rw [State.unitNow, hs, unitAfter_last_write _ _ _ _ h]
  · rintro rfl
    exact writeResult_whole old data
  · intro hwhole hnone
    rw [writeResult_partial old data hwhole hnone]
    exact ⟨fun j hj => mergeBytes_byte enables data old.data hj, rfl, rfl⟩

end Sys2Proof.Machine

namespace Sys2Proof.Machine

/-! ### RELEASE_TILE (O35) -/

theorem State.exec_releaseTile {s : State} {r : RequestRecord} (h : s.Dispatched 9 r) :
    exec .releaseTile s = .next (s.takeRelease r) := by
  change s.happen ((s.dispatched 9).map fun r => s.takeRelease r) = _
  simp [State.happen, h.running, h.hand]

/-- A tile's health state is that of its record (R192). -/
theorem State.health_split {s : State} {tile : Nat} {l1 l2 : List Health} {h : Health}
    (hs : s.notice.tiles = l1 ++ h :: l2) (hl : l1.length = tile) : s.health tile = h.state := by
  subst hl
  simp [State.health, hs]

/-- A tile index without a record reads NORMAL. -/
theorem State.health_beyond {s : State} {tile : Nat} (h : s.notice.tiles.length ≤ tile) : s.health tile = .normal := by
  simp [State.health, List.getElem?_eq_none h]

section Release

variable {s : State} {r : RequestRecord}

theorem State.takeRelease_unplanned (hp : s.part ≠ .planned) : s.takeRelease r = s.reply .noPlan Detail.zero :=
  if_pos hp

variable (hp : s.part = .planned)
include hp

theorem State.takeRelease_beyond (h : 64 ≤ r.tile) :
    s.takeRelease r = s.reply .badArgument ⟨.tile, r.tile, 0, (s.health r.tile).code, 0⟩ := by
  simp [State.takeRelease, hp, h]

/-- Of a tile that exists, RELEASE_TILE goes by its health state (R195). -/
theorem State.takeRelease_existing (h : r.tile < 64) : s.takeRelease r =
    if s.health r.tile = .normal then s.reply .badState ⟨.tile, r.tile, 0, (s.health r.tile).code, 0⟩
    else (s.onNotice fun n => { n with tiles := n.tiles.modify r.tile fun x => { x with state := .normal } }).reply .done
      ⟨.tile, r.tile, 0, (s.health r.tile).code, 0⟩ := by
  simp [State.takeRelease, hp, Nat.not_le.2 h]

end Release

/-- Settles O35: the request by its checks in order, the held state being that of the tile's record
(`State.health_split`), which is the one record that a release changes. -/
theorem releaseTaken : Obligations.ReleaseTaken := by
  intro s r hd
  rw [State.exec_releaseTile hd]
  refine ⟨fun hp => ?_, fun hp h hl => ?_, fun l1 h l2 hp ht hs hl => ⟨fun hn => ?_, fun hn => ?_⟩⟩
  · rw [State.takeRelease_unplanned hp]
  · rw [State.takeRelease_beyond hp h, State.health_beyond (hl.trans_le h)]
    rfl
  · rw [State.takeRelease_existing hp ht, State.health_split hs hl, if_pos hn, hn]
    rfl
  · have released : (s.onNotice fun n => { n with tiles := n.tiles.modify r.tile fun x => { x with state := .normal } }) =
        s.onNotice fun n => { n with tiles := l1 ++ { h with state := .normal } :: l2 } :=
      State.onNotice_congr (by simp [← hl, hs, List.modify_eq_set_getElem?])
    rw [State.takeRelease_existing hp ht, State.health_split hs hl, if_neg hn, released]

/-! ### The notice unit begins a write (O53) -/

section NoticeAsk

variable {s : State} (ha : s.asking isNoticeUnit = false)
include ha

/-- A reply of which nothing has been asked asks for its first unit (R198). -/
theorem State.noticeAsk_reply {units : List Word} (hw : s.notice.reply = some ⟨units, 0⟩) (hn : 0 < units.length) :
    s.noticeAsk = (s.onNotice fun n => { n with reply := some ⟨units, 1⟩ }).ask
      ⟨.replyUnit 0, s.planBase + 0x4040, some ⟨0xFF#8, units.getD 0 0#64⟩⟩ := by
  simp [State.noticeAsk, ha, hw, hn, Config.replyAt]

/-- So does a status block, with no reply being written (R198). -/
theorem State.noticeAsk_status {units : List Word} {causes : BitVec 9} {publishes : Bool} (hr : s.notice.reply = none)
    (hw : s.notice.status = some ⟨units, 0, causes, publishes⟩) (hn : 0 < units.length) :
    s.noticeAsk = (s.onNotice fun n => { n with status := some ⟨units, 1, causes, publishes⟩ }).ask
      ⟨.statusUnit 0, s.planBase + 0x4100, some ⟨0xFF#8, units.getD 0 0#64⟩⟩ := by
  simp [State.noticeAsk, ha, hr, hw, hn, Config.statusAt]

/-- A reply begins with its first unit asked for. -/
theorem State.startReply_eq (r : Reply) : s.startReply r =
    (s.onNotice fun n => { n with replyWaiting := none, reply := some ⟨unitsOf 2 r.bytes, 1⟩ }).ask
      ⟨.replyUnit 0, s.planBase + 0x4040, some ⟨0xFF#8, (unitsOf 2 r.bytes).getD 0 0#64⟩⟩ :=
  State.noticeAsk_reply (s := s.onNotice fun n => { n with replyWaiting := none, reply := some ⟨unitsOf 2 r.bytes, 0⟩ })
    ha rfl (by simp [unitsOf])

/-- A status block begins with its first unit asked for. -/
theorem State.startStatus_eq (hr : s.notice.reply = none) {n : Nat} (hn : n = (s.notice.statusSeq + 1) % 2 ^ 32)
    {units : List Word} (hu : units = unitsOf 145 (s.statusBytes n (s.notice.latched ||| s.notice.pending))) :
    s.startStatus = (s.onNotice fun x => { x with
      wanted := false, pending := 0#9, statusSeq := n, status := some ⟨units, 1, s.notice.pending, true⟩ }).ask
      ⟨.statusUnit 0, s.planBase + 0x4100, some ⟨0xFF#8, units.getD 0 0#64⟩⟩ := by
  subst hn hu
  exact State.noticeAsk_status (s := s.onNotice fun x => { x with
    wanted := false, pending := 0#9, statusSeq := (s.notice.statusSeq + 1) % 2 ^ 32
    status := some ⟨unitsOf 145 (s.statusBytes ((s.notice.statusSeq + 1) % 2 ^ 32)
      (s.notice.latched ||| s.notice.pending)), 0, s.notice.pending, true⟩ }) ha hr rfl (by simp [unitsOf])

end NoticeAsk

section NoticeStart

variable {s : State} (hreset : s.inReset = false)
include hreset

/-- An idle notice unit begins the reply that waits (R198). -/
theorem State.exec_replyWriteStart {r : Reply} (hi : s.noticeIdle = true) (hr : s.notice.replyWaiting = some r) :
    exec .replyWriteStart s = .next (s.startReply r) := by
  change s.happen s.replyStartEvent = _
  simp [State.happen, State.replyStartEvent, hreset, hi, hr]

/-- A status block begins exactly when the unit is idle, no reply waits and the block is wanted (R198). -/
theorem State.exec_statusWriteStart : exec .statusWriteStart s =
    .next (if s.noticeIdle ∧ s.notice.replyWaiting = none ∧ s.notice.wanted = true then s.startStatus else s) := by
  change s.happen s.statusStartEvent = _
  by_cases h : s.noticeIdle ∧ s.notice.replyWaiting = none ∧ s.notice.wanted = true
  · simp only [State.happen, hreset, State.statusStartEvent, if_pos h]
    rfl
  · simp only [State.happen, hreset, State.statusStartEvent, if_neg h]
    rfl

end NoticeStart

/-- Settles O53: each command by its condition, and a write begun by the first unit it asks for (`State.startReply_eq`,
`State.startStatus_eq`). -/
theorem noticeWritesStart : Obligations.NoticeWritesStart := by
  intro s hreset hst hre ha
  have idle : s.noticeIdle = true := by simp [State.noticeIdle, hst, hre]
  refine ⟨fun r hr => ⟨?_, ?_⟩, fun hr hw => ?_, fun hr hw => ?_⟩
  · rw [State.exec_replyWriteStart hreset idle hr, State.startReply_eq ha]
  · rw [State.exec_statusWriteStart hreset, if_neg (by simp [hr])]
  · rw [State.exec_statusWriteStart hreset, if_pos ⟨idle, hr, hw⟩, State.startStatus_eq ha hre rfl rfl]
  · rw [State.exec_statusWriteStart hreset, if_neg (by simp [hw])]

end Sys2Proof.Machine

namespace Sys2Proof.Machine

/-! ### The step's end in a quiet part (O5) -/

/-- With no beat waiting for a lock or stalled behind its master, none is taken again. -/
theorem State.retake_idle {s : State} (hwaiters : s.bus.lockWaiters = []) (hstalled : s.bus.stalled = []) (n : Nat) :
    s.retake n = s := by
  cases n with
  | zero => rfl
  | succ n => simp [State.retake, hwaiters, hstalled, takeFirst]

/-- Settles O5: the merge buffer of a quiet part is still (`State.Still.mergeSettle`), and no beat waits to be taken. -/
theorem settleQuiet : Obligations.SettleQuiet := by
  intro s hq
  obtain ⟨still, hwaiters, hstalled⟩ := State.still_of_quiet hq
  rw [State.settle, still.mergeSettle]
  exact State.retake_idle hwaiters hstalled _

/-! ### The command of a step (O1) -/

theorem step_cons {s : State} {c : Instr} {rest : List Instr} (h : s.pending = c :: rest) :
    step s = exec c (s.setPending rest) := by
  simp only [step, h]

theorem step_nil {s : State} (h : s.pending = []) : step s = .next s := by
  simp only [step, h]

/-- Settles O1: the queue decides (`step_cons`, `step_nil`). -/
theorem stepRunsFront : Obligations.StepRunsFront := fun _ => ⟨fun _ _ => step_cons, step_nil⟩

end Sys2Proof.Machine

namespace Sys2Proof.Machine

/-! ### The invariants at reset (O4) -/

/-- Nothing is latched at reset, so that NOTICE is not asserted, and the frame store is empty. -/
theorem State.reset_sound : State.reset.Sound := ⟨State.reset_mem_wf, rfl, Nat.zero_le _⟩

/-- The tables have their sizes at reset (`List.length_replicate`), and every count is 0. -/
theorem State.reset_bounded : State.reset.Bounded where
  slots := List.length_replicate
  banks := rfl
  entries := List.length_replicate
  bias := List.length_replicate
  products := List.length_replicate
  tiles := List.length_replicate
  stray := Nat.zero_le _
  unclaimed := Nat.zero_le _
  late := Nat.zero_le _
  protects := Nat.zero_le _
  requestsLost := Nat.zero_le _
  overwritten := Nat.zero_le _
  corrected := Nat.zero_le _
  uncorrectable := Nat.zero_le _
  accepted := Nat.zero_lt_succ _
  consume := Nat.zero_lt_succ _

/-- Settles O4: each invariant by what reset gives the fields it speaks of. -/
theorem invariantsAtReset : Obligations.InvariantsAtReset := ⟨State.reset_sound, State.reset_bounded⟩

/-! ### RESET asserted, and its release (O6) -/

/-- No event happens while RESET is asserted (R180). -/
theorem State.happen_inReset {s : State} (h : s.inReset = true) (x : Option State) : s.happen x = .next s := by
  simp [State.happen, h]

/-- No well-formed beat is taken while RESET is asserted (R180). -/
theorem State.present_inReset {s : State} {b : BusBeat} (hf : beatWellFormed b.index b.length = true)
    (h : s.inReset = true) : s.present b = .next s := by
  simp [State.present, hf, h]

/-- While RESET is asserted no command but its release does anything: a beat command presents its beat, RESET_ASSERT and
HOLD_LIMIT_EXPIRY look at RESET themselves, and every other command is an event. -/
theorem exec_inReset {c : Instr} {s : State} (hf : c.wellFormed = true) (h : s.inReset = true)
    (hc : ∀ b p m, c ≠ .resetRelease b p m) : exec c s = .next s := by
  cases hb : beatOf c with
  | some b =>
    rw [exec_beat hb]
    exact State.present_inReset ((beatOf_wellFormed hb).symm.trans hf) h
  | none =>
    cases c with
    | resetAssert => exact congrArg Host.Outcome.next (if_pos h)
    | resetRelease b p m => exact absurd rfl (hc b p m)
    | holdLimitExpiry m => exact if_pos h
    | frameBusReadBeat | frameBusWriteBeat | rawWriteBeat | cellReadBeat | cellWriteBeat | protectedWriteBeat | lockedRead
    | viewReadBeat | viewWriteBeat => cases hb
    | _ => exact State.happen_inReset h _

theorem exec_resetRelease {s : State} (h : s.inReset = true) (bypass : Bool) (planSel memSize : BitVec 2) :
    exec (.resetRelease bypass planSel memSize) s = .next (s.released bypass planSel memSize) :=
  congrArg Host.Outcome.next (if_pos h)

/-- The plan area bases that PLAN_SEL selects (R1). -/
theorem planBase_eq (sel : BitVec 2) :
    Config.planBase sel = [0, 64 * 2 ^ 20, 256 * 2 ^ 20, 2 ^ 30].getD sel.toNat 0 := by
  revert sel
  decide

/-- The fitted sizes that MEM_SIZE selects (R1). -/
theorem fitted_eq (size : BitVec 2) :
    Config.fitted size = [8 * 2 ^ 30, 16 * 2 ^ 30, 32 * 2 ^ 30, 64 * 2 ^ 30].getD size.toNat 0 := by
  revert size
  decide

/-- Settles O6: nothing but the release happens under RESET (`exec_inReset`), and the release latches the straps, from
which the base and the size follow (`planBase_eq`, `fitted_eq`). -/
theorem resetReleased : Obligations.ResetReleased := by
  refine ⟨fun c s => exec_inReset, fun s bypass planSel memSize => ⟨fun h => ?_, fun h => ?_, fun t ht h => ?_⟩⟩
  · exact exec_resetRelease h bypass planSel memSize
  · exact congrArg Host.Outcome.next (if_neg (by simp [h]))
  · rw [exec_resetRelease h] at ht
    obtain rfl := Host.Outcome.next.inj ht
    exact ⟨planBase_eq planSel, fitted_eq memSize⟩

end Sys2Proof.Machine

namespace Sys2Proof.Machine

/-! ### GENERATION (O59) -/

/-- Settles O59: the three cases of the check in their order (R15). -/
theorem generationChecked : Obligations.GenerationChecked := by
  intro argument complement header inForce
  refine ⟨fun hc => ?_, fun hc hh => ?_, fun hc hh hz => ?_, fun hc hh hz hf => ?_⟩
  · exact if_pos hc
  · rw [generationCheck, if_neg (not_not.2 hc), if_pos hh]
    rfl
  · rw [generationCheck, if_neg (not_not.2 hc), if_neg (not_not.2 hh), if_pos hz]
    rfl
  · rw [generationCheck, if_neg (not_not.2 hc), if_neg (not_not.2 hh), if_neg (not_or.2 ⟨hz, hf⟩)]

/-! ### The check sum, and the first checks of a commit (O60) -/

/-- A record's bytes, a byte beyond its end read as 0: its first field by its own bytes. -/
theorem field_four (b : List Byte) (off : Nat) : field b off 4 = (b.getD off 0#8).toNat +
    256 * (b.getD (off + 1) 0#8).toNat + 65536 * (b.getD (off + 2) 0#8).toNat +
    16777216 * (b.getD (off + 3) 0#8).toNat := by
  have step (off width : Nat) :
      field b off (width + 1) = (b.getD off 0#8).toNat + 256 * field b (off + 1) width := by
    by_cases h : off < b.length
    · rw [field, List.drop_eq_getElem_cons h, List.take_succ_cons, List.foldr_cons, List.getD_eq_getElem _ _ h]
      rfl
    · simp [field, List.drop_eq_nil_of_le (Nat.not_lt.1 h), List.drop_eq_nil_of_le (Nat.le_succ_of_le (Nat.not_lt.1 h)), h]
  have last : field b (off + 4) 0 = 0 := by simp [field]
  rw [step, step, step, step, last]
  ring

/-- What is left out of a sum is taken as 0. -/
theorem sum_filter_map (p : Nat → Prop) [DecidablePred p] (f : Nat → Nat) (l : List Nat) :
    ((l.filter fun i => decide (¬p i)).map f).sum = (l.map fun i => if p i then 0 else f i).sum := by
  induction l with
  | nil => rfl
  | cons i l ih =>
    by_cases h : p i
    · simpa [h] using ih
    · simpa [h] using ih

/-- What the checks that follow CHECK give, by what each of them finds (R14). -/
def contentsVerdict (changed : Bool) (firstBad : Option Nat) (range overlap inUse : Option Detail) :
    ReplyOutcome × Detail :=
  if changed then (.changed, Detail.zero)
  else match firstBad with
  | some k => (.memory, beatPlace k)
  | none =>
    match range with
    | some d => (.range, d)
    | none =>
      match overlap with
      | some d => (.overlap, d)
      | none =>
        match inUse with
        | some d => (.productInUse, d)
        | none => (.done, Detail.zero)

/-- None of them answers CHECK. -/
theorem contentsVerdict_ne_check (changed : Bool) (firstBad : Option Nat) (range overlap inUse : Option Detail) :
    (contentsVerdict changed firstBad range overlap inUse).1 ≠ .check := by
  unfold contentsVerdict
  repeat' split
  all_goals simp

section Verdict

variable {b : Body} {l : Loader} {load : Load} {planBase fitted : Nat} {state : Nat → ProductState}

theorem Body.verdict_marker (h : b.header 0 4 ≠ 0x364E4C50) :
    b.verdict l load planBase fitted state = (.marker, ⟨.header, 0, 0, 0, 0⟩) := if_pos h

variable (hm : b.header 0 4 = Config.planMarker)
include hm

theorem Body.verdict_generation {d : Detail}
    (h : generationCheck l.argument l.complement (b.header 4 4) l.generation = some d) :
    b.verdict l load planBase fitted state = (.generation, d) := by
  rw [Body.verdict, if_neg (not_not.2 hm), h]

/-- With the marker and the generation right, the check sum goes before the checks of the contents (R14, R16). -/
theorem Body.verdict_summed
    (h : generationCheck l.argument l.complement (b.header 4 4) l.generation = none) :
    b.verdict l load planBase fitted state = if b.sum ≠ b.header 8 4 then (.check, ⟨.header, 0, 9, 0, 0⟩)
      else contentsVerdict load.changed load.firstBad b.rangeCheck (b.plan.overlapCheck planBase fitted)
        (inUseCheck l.plan b.plan state) := by
  rw [Body.verdict, if_neg (not_not.2 hm), h]
  refine ite_congr rfl (fun _ => rfl) fun _ => ?_
  unfold contentsVerdict
  cases load.changed with
  | true => exact (if_pos rfl).trans (if_pos rfl).symm
  | false =>
    refine (if_neg Bool.false_ne_true).trans (Eq.trans ?_ (if_neg Bool.false_ne_true).symm)
    cases load.firstBad with
    | some k => rfl
    | none =>
      cases b.rangeCheck with
      | some d => rfl
      | none =>
        cases b.plan.overlapCheck planBase fitted with
        | some d => rfl
        | none => cases inUseCheck l.plan b.plan state <;> rfl

end Verdict

/-- Settles O60: the sum word by word (`field_four`) with the check field left out (`sum_filter_map`), and its place
among the checks (`Body.verdict_summed`). -/
theorem checkSummed : Obligations.CheckSummed := by
  intro b
  refine ⟨?_, fun l load planBase fitted state hm hg => ?_⟩
  · have words := sum_filter_map (fun i => i = 2) (fun i => field b (4 * i) 4) (List.range 2896)
    have count : Config.bodyBytes / 4 = 2896 := rfl
    simp only [field_four] at words
    simp only [Body.sum, count, field_four, ne_eq, words]
    rfl
  · rw [Body.verdict_summed hm hg]
    by_cases h : b.sum ≠ b.header 8 4
    · rw [if_pos h]
      exact iff_of_true rfl h
    · rw [if_neg h]
      exact iff_of_false (contentsVerdict_ne_check _ _ _ _ _) h

end Sys2Proof.Machine

namespace Sys2Proof.Machine

/-! ### The checks of a commit (O58) -/

/-! #### The first that fails, of a list -/

/-- The first element of a list at which a search succeeds decides it. -/
theorem findSome?_first {α β : Type} {f : α → Option β} {l1 : List α} {x : α} {b : β} (l2 : List α)
    (h1 : ∀ y ∈ l1, f y = none) (hx : f x = some b) : (l1 ++ x :: l2).findSome? f = some b := by
  rw [List.findSome?_append, List.findSome?_eq_none_iff.2 h1, Option.none_or, List.findSome?_cons, hx]

/-- `found` names, as its offset plus 1, the first condition of `l` that does not hold; it is none when all hold. -/
def NamesFirst (l : List (Prop × Nat)) (found : Option Nat) : Prop :=
  (found = none ↔ ∀ x ∈ l, x.1) ∧
    ∀ l1 x l2, l = l1 ++ x :: l2 → (∀ y ∈ l1, y.1) → ¬x.1 → found = some (x.2 + 1)

/-- A condition of the model's list and the one it decides, at the same offset. -/
def Decides (c : Bool × Nat) (x : Prop × Nat) : Prop := (c.1 = true ↔ x.1) ∧ c.2 = x.2

/-- The model's list of conditions names the first of those it decides that does not hold (R17). -/
theorem firstFailing_namesFirst {c : List (Bool × Nat)} {l : List (Prop × Nat)} (h : List.Forall₂ Decides c l) :
    NamesFirst l (firstFailing c) := by
  unfold firstFailing
  induction h with
  | nil => exact ⟨by simp, by simp⟩
  | @cons c x cs l hx _ ih =>
    obtain ⟨hiff, hoff⟩ := hx
    rw [List.findSome?_cons]
    by_cases hc : c.1 = true
    · have holds : x.1 := hiff.1 hc
      rw [if_pos hc]
      refine ⟨by simpa [holds] using ih.1, fun l1 y l2 hl h1 hy => ?_⟩
      cases l1 with
      | nil =>
        obtain ⟨rfl, -⟩ := List.cons.inj hl
        exact absurd holds hy
      | cons z l1 =>
        obtain ⟨-, hl⟩ := List.cons.inj hl
        exact ih.2 l1 y l2 hl (fun w hw => h1 w (List.mem_cons_of_mem _ hw)) hy
    · have fails : ¬x.1 := mt hiff.2 hc
      rw [if_neg hc, hoff]
      refine ⟨by simp [fails], fun l1 y l2 hl h1 hy => ?_⟩
      cases l1 with
      | nil =>
        obtain ⟨rfl, -⟩ := List.cons.inj hl
        rfl
      | cons z l1 =>
        obtain ⟨rfl, -⟩ := List.cons.inj hl
        exact absurd (h1 x List.mem_cons_self) fails

/-- Conditions that hold name nothing. -/
theorem firstFailing_append_holds (c : List (Bool × Nat)) {d : List (Bool × Nat)} (h : ∀ x ∈ d, x.1 = true) :
    firstFailing (c ++ d) = firstFailing c := by
  have none : d.findSome? (fun x => if x.1 then none else some (x.2 + 1)) = none :=
    List.findSome?_eq_none_iff.2 fun x hx => if_pos (h x hx)
  rw [firstFailing, List.findSome?_append, none, Option.or_none, firstFailing]

theorem firstEntry_none {table : DetailTable} {n : Nat} {f : Nat → Option Nat} (h : ∀ i < n, f i = none) :
    firstEntry table n f = none :=
  List.findSome?_eq_none_iff.2 fun i hi => by rw [h i (List.mem_range.1 hi), Option.map_none]

/-- The first entry of a table that fails gives the detail (R14, R17). -/
theorem firstEntry_some {table : DetailTable} {n i code : Nat} {f : Nat → Option Nat} (hi : i < n)
    (hfirst : ∀ j < i, f j = none) (hf : f i = some code) : firstEntry table n f = some ⟨table, i, code, 0, 0⟩ := by
  obtain ⟨m, rfl⟩ := Nat.exists_eq_add_of_lt hi
  have split : List.range (i + m + 1) = List.range i ++ i :: (List.range m).map (i + 1 + ·) := by
    rw [show i + m + 1 = i + (m + 1) by omega, List.range_add, List.range_succ_eq_map, List.map_cons, List.map_map]
    simp [Function.comp_def, Nat.add_assoc, Nat.add_comm 1]
  rw [firstEntry, split]
  refine findSome?_first _ (fun j hj => ?_) ?_
  · rw [hfirst j (List.mem_range.1 hj), Option.map_none]
  · rw [hf]
    rfl

/-! #### RANGE (R17) -/

section Range

variable (b : Body)

/-- The tables of the RANGE check in their order, each with its number of entries and the check of one (log 26). -/
def Body.rangeTables : List (DetailTable × Nat × (Nat → Option Nat)) :=
  [(.header, 1, fun _ => b.headerRange), (.tile, b.tileCount, b.tileRange), (.segment, b.segmentCount, b.segmentRange),
    (.tile, b.tileCount, b.tileFilled), (.tile, b.tileCount, b.pitchBound), (.product, 4, b.productRange)]

theorem Body.rangeCheck_eq : b.rangeCheck = b.rangeTables.findSome? fun x => firstEntry x.1 x.2.1 x.2.2 := by
  have header : firstEntry .header 1 (fun _ => b.headerRange) = b.headerRange.map fun c => commitDetail .header 0 c := by
    cases h : b.headerRange <;> simp [firstEntry]
  simp only [Body.rangeTables, List.findSome?_cons, List.findSome?_nil, header, Body.rangeCheck]
  cases b.headerRange.map fun c => commitDetail .header 0 c with
  | some d => rfl
  | none =>
    cases firstEntry .tile b.tileCount b.tileRange with
    | some d => rfl
    | none =>
      cases firstEntry .segment b.segmentCount b.segmentRange with
      | some d => rfl
      | none =>
        cases firstEntry .tile b.tileCount b.tileFilled with
        | some d => rfl
        | none =>
          cases firstEntry .tile b.tileCount b.pitchBound with
          | some d => rfl
          | none => cases firstEntry .product 4 b.productRange <;> rfl

variable (i : Nat)

theorem inRange_iff (lo hi n : Nat) : inRange lo hi n = true ↔ lo ≤ n ∧ n ≤ hi := by simp [inRange]

theorem multipleOf_iff (m n : Nat) : multipleOf m n = true ↔ n % m = 0 := decide_eq_true_iff

theorem coordinate_iff (z : Int) : coordinate z = true ↔ -1048576 ≤ z ∧ z ≤ 1048575 := by simp [coordinate]

/-- A segment entry repeats no earlier one (R8). -/
theorem Body.repeats_iff : (!b.repeats i) = true ↔
    ∀ j < i, b.segment j 0 1 ≠ b.segment i 0 1 ∨ b.segment j 1 1 ≠ b.segment i 1 1 := by
  simp [Body.repeats, imp_iff_not_or]

theorem Body.headerRange_namesFirst : NamesFirst
    [(1 ≤ b.tileCount ∧ b.tileCount ≤ 64, 0x0C), (1 ≤ b.segmentCount ∧ b.segmentCount ≤ 256, 0x0E),
      (b.header 0x10 8 % 4294967296 = 0, 0x10), (b.header 0x18 8 % 4294967296 = 0, 0x18),
      (b.header 0x10 8 ≠ 0 ∨ b.header 0x18 8 ≠ 0, 0x18)] b.headerRange :=
  firstFailing_namesFirst (by
    simp only [List.forall₂_cons, List.Forall₂.nil, Decides, inRange_iff, multipleOf_iff, Config.bankSize,
      Bool.or_eq_true, decide_eq_true_eq, and_self])

theorem Body.tileRange_namesFirst : NamesFirst
    [(1 ≤ b.tile i 0 1 ∧ b.tile i 0 1 ≤ 16, 0), (b.tile i 1 1 ≤ 1, 1), (b.tile i 2 1 ≤ 1, 2),
      (b.tile i 8 8 % 8 = 0, 8), (b.tile i 0x10 8 % 8 = 0, 0x10), (b.tile i 0x18 8 % 8 = 0, 0x18),
      (b.tile i 4 4 % 8 = 0, 4), (b.tile i 0x20 4 % 8 = 0, 0x20)] (b.tileRange i) :=
  firstFailing_namesFirst (by
    simp only [List.forall₂_cons, List.Forall₂.nil, Decides, inRange_iff, multipleOf_iff, decide_eq_true_eq, and_self])

theorem Body.segmentRange_namesFirst : NamesFirst
    [(b.segment i 0 1 < b.tileCount, 0), (b.segment i 1 1 < b.tile (b.segment i 0 1) 0 1, 1),
      (4 ≤ b.segment i 4 2 ∧ b.segment i 4 2 ≤ 2048, 4),
      (b.segment i 6 2 = 0 ∨ b.segment i 6 2 = 4 ∨ b.segment i 6 2 = 8 ∨ b.segment i 6 2 = 16 ∨ b.segment i 6 2 = 32, 6),
      (1 ≤ b.segment i 8 2 ∧ b.segment i 8 2 ≤ 4096, 8),
      (-1048576 ≤ b.segmentSigned i 0x10 ∧ b.segmentSigned i 0x10 ≤ 1048575, 0x10),
      (-1048576 ≤ b.segmentSigned i 0x14 ∧ b.segmentSigned i 0x14 ≤ 1048575, 0x14), (b.segment i 2 1 < 8, 2),
      (b.segment i 4 2 + b.segment i 6 2 ≤ 2048 ∧ (b.segment i 4 2 + b.segment i 6 2) % 4 = 0, 6),
      (∀ j < i, b.segment j 0 1 ≠ b.segment i 0 1 ∨ b.segment j 1 1 ≠ b.segment i 1 1, 1)] (b.segmentRange i) :=
  firstFailing_namesFirst (by
    simp only [List.forall₂_cons, List.Forall₂.nil, Decides, inRange_iff, multipleOf_iff, coordinate_iff,
      Body.repeats_iff, List.contains_iff_mem, List.mem_cons, List.not_mem_nil, or_false, Bool.and_eq_true,
      decide_eq_true_eq, and_self])

/-- The segment entries that name a tile are counted (R8). -/
theorem Body.tileFilled_namesFirst : NamesFirst
    [(((List.range b.segmentCount).countP fun j => decide (b.segment j 0 1 = i)) = b.tile i 0 1, 0)] (b.tileFilled i) :=
  firstFailing_namesFirst (.cons ⟨by rw [List.countP_eq_length_filter]; exact decide_eq_true_iff, rfl⟩ .nil)

theorem Body.pitchBound_namesFirst : NamesFirst
    [(∀ j, j < b.segmentCount ∧ b.segment j 0 1 = i → 2 * b.segment j 4 2 ≤ b.tile i 4 4, 4)] (b.pitchBound i) :=
  firstFailing_namesFirst (by
    simp only [List.forall₂_cons, List.Forall₂.nil, Decides, Body.segmentsOf, List.all_eq_true, List.mem_filter,
      List.mem_range, decide_eq_true_eq, and_self])

theorem Body.productRange_undefined (h : b.product i 0 8 = 0) : b.productRange i = none := if_pos h

theorem Body.productRange_namesFirst (h : b.product i 0 8 ≠ 0) : NamesFirst
    [(b.product i 0 8 % 4096 = 0, 0),
      (1 ≤ b.product i 0x18 2 ∧ b.product i 0x18 2 ≤ 32768, 0x18),
      (1 ≤ b.product i 0x1A 2 ∧ b.product i 0x1A 2 ≤ 32768, 0x1A),
      (b.product i 0x1C 1 = 1 ∨ b.product i 0x1C 1 = 2 ∨ b.product i 0x1C 1 = 4 ∨ b.product i 0x1C 1 = 8, 0x1C),
      (-1048576 ≤ b.productSigned i 0x24 ∧ b.productSigned i 0x24 ≤ 1048575, 0x24),
      (-1048576 ≤ b.productSigned i 0x28 ∧ b.productSigned i 0x28 ≤ 1048575, 0x28), (b.product i 0x1D 1 ≤ 15, 0x1D),
      (b.product i 8 8 % 8 = 0, 8), (b.product i 0x10 8 % 8 = 0, 0x10)] (b.productRange i) := by
  rw [Body.productRange, if_neg h]
  refine firstFailing_namesFirst ?_
  simp only [List.forall₂_cons, List.Forall₂.nil, Decides, inRange_iff, multipleOf_iff, coordinate_iff,
    List.contains_iff_mem, List.mem_cons, List.not_mem_nil, or_false, decide_eq_true_eq, and_self]

end Range

/-! #### OVERLAP (R18) -/

/-- Region `i` of the list passes the end of fitted DRAM or shares a byte with an earlier one. -/
def RegionFails (fitted : Nat) (regions : List Region) (i : Nat) : Prop :=
  ∃ r, regions[i]? = some r ∧ (fitted < r.hi ∨ ∃ j < i, ∃ e, regions[j]? = some e ∧
    ¬(e.isFrame = true ∧ r.isFrame = true) ∧ e.lo < r.hi ∧ r.lo < e.hi)

theorem Region.clashes_iff (a b : Region) : a.clashes b = true ↔
    ¬(a.isFrame = true ∧ b.isFrame = true) ∧ a.lo < b.hi ∧ b.lo < a.hi := by
  simp [Region.clashes, and_assoc, imp_iff_not_or]

/-- The region at the head of those left, against those before it. -/
theorem regionFails_head {fitted : Nat} {earlier : List Region} {r : Region} (rest : List Region) :
    RegionFails fitted (earlier ++ r :: rest) earlier.length ↔
      (fitted < r.hi ∨ earlier.any (fun e => e.clashes r) = true) := by
  have here : (earlier ++ r :: rest)[earlier.length]? = some r := by simp
  have before {e : Region} : (∃ j < earlier.length, (earlier ++ r :: rest)[j]? = some e) ↔ e ∈ earlier := by
    rw [List.mem_iff_getElem?]
    refine ⟨fun ⟨j, hj, he⟩ => ⟨j, List.getElem?_append_left hj ▸ he⟩, fun ⟨j, he⟩ => ?_⟩
    have hj : j < earlier.length := (List.getElem?_eq_some_iff.1 he).1
    exact ⟨j, hj, (List.getElem?_append_left hj).trans he⟩
  simp only [RegionFails, here, Option.some.injEq, exists_eq_left', List.any_eq_true, Region.clashes_iff]
  refine or_congr_right ⟨fun ⟨j, hj, e, he, hc⟩ => ⟨e, before.1 ⟨j, hj, he⟩, hc⟩, fun ⟨e, he, hc⟩ => ?_⟩
  obtain ⟨j, hj, hje⟩ := before.2 he
  exact ⟨j, hj, e, hje, hc⟩

section Clash

variable {fitted : Nat}

theorem firstClash_none (rest : List Region) : ∀ {earlier : List Region},
    (∀ i, ¬RegionFails fitted (earlier ++ rest) i) → firstClash fitted earlier rest earlier.length = none := by
  induction rest with
  | nil => exact fun _ => rfl
  | cons r rest ih =>
    intro earlier h
    rw [firstClash, if_neg (mt (regionFails_head rest).2 (h _))]
    simpa using ih (earlier := earlier ++ [r]) (by simpa using h)

/-- The search finds the first region that fails of those left. -/
theorem firstClash_some (rest : List Region) : ∀ {earlier : List Region} {i : Nat},
    RegionFails fitted (earlier ++ rest) i → earlier.length ≤ i →
      (∀ j < i, ¬RegionFails fitted (earlier ++ rest) j) → firstClash fitted earlier rest earlier.length = some i := by
  induction rest with
  | nil =>
    rintro earlier i ⟨r, hr, -⟩ hi -
    rw [List.append_nil, List.getElem?_eq_none hi] at hr
    cases hr
  | cons r rest ih =>
    intro earlier i hf hi hfirst
    rw [firstClash]
    rcases Nat.eq_or_lt_of_le hi with rfl | hlt
    · rw [if_pos ((regionFails_head rest).1 hf)]
    · rw [if_neg (mt (regionFails_head rest).2 (hfirst _ hlt))]
      simpa using ih (earlier := earlier ++ [r]) (by simpa using hf) (by simpa using hlt) (by simpa using hfirst)

variable {p : Plan} {planBase : Nat}

theorem Plan.overlapCheck_none (h : ∀ i, ¬RegionFails fitted (p.regions planBase) i) :
    p.overlapCheck planBase fitted = none := by
  have clear : firstClash fitted [] (p.regions planBase) 0 = none := firstClash_none (earlier := []) _ h
  rw [Plan.overlapCheck, clear, Option.map_none]

theorem Plan.overlapCheck_some {i : Nat} (h : RegionFails fitted (p.regions planBase) i)
    (hfirst : ∀ j < i, ¬RegionFails fitted (p.regions planBase) j) :
    p.overlapCheck planBase fitted = some ⟨.region, i, 0, 0, 0⟩ := by
  have clash : firstClash fitted [] (p.regions planBase) 0 = some i :=
    firstClash_some (earlier := []) _ h (Nat.zero_le _) hfirst
  rw [Plan.overlapCheck, clash]
  rfl

end Clash

/-- A list gone through by its positions. -/
theorem flatMap_range_length {α β : Type} {l : List α} {f : Nat → α → List β} {g : Nat → List β}
    (h : ∀ i a, l[i]? = some a → g i = f i a) : (List.range l.length).flatMap g = (l.mapIdx f).flatten := by
  refine congrArg List.flatten (List.ext_getElem (by simp) fun i h1 h2 => ?_)
  have hi : i < l.length := by simpa using h1
  simpa using h i _ (List.getElem?_eq_getElem hi)

/-- The greatest of a start and a list is none below them, and one of them. -/
theorem foldl_max_spec (l : List Nat) (a : Nat) : (∀ x ∈ l, x ≤ l.foldl max a) ∧ l.foldl max a ∈ a :: l := by
  induction l generalizing a with
  | nil => simp
  | cons x l ih =>
    obtain ⟨hle, hmem⟩ := ih (max a x)
    have above : max a x ≤ l.foldl max (max a x) := by
      rcases List.mem_cons.1 hmem with h | h
      · exact h.ge
      · have start_le (l : List Nat) : ∀ a, a ≤ l.foldl max a := by
          induction l with
          | nil => exact fun a => le_rfl
          | cons y l ih => exact fun a => (le_max_left a y).trans (ih _)
        exact start_le l _
    refine ⟨fun y hy => ?_, ?_⟩
    · rcases List.mem_cons.1 hy with rfl | hy
      · exact (le_max_right a y).trans above
      · exact hle y hy
    · rw [List.foldl_cons]
      rcases List.mem_cons.1 hmem with h | h
      · rw [h]
        rcases max_choice a x with hm | hm <;> simp [hm]
      · simp [h]

/-- R18: the ends of the segment rows of a frame of a tile. -/
def Plan.rowEnds (p : Plan) (tile base : Nat) (t : TileEntry) : List Nat :=
  (p.segments.filter fun e => decide (e.tile = tile)).map fun e =>
    base + e.index * t.stride + (e.rows - 1) * t.pitch + 2 * e.width

theorem Plan.frameEnd_eq (p : Plan) (tile base : Nat) (t : TileEntry) :
    p.frameEnd tile base t = (p.rowEnds tile base t).foldl max base := by
  simp only [Plan.frameEnd, Plan.rowEnds, List.foldl_map, List.foldl_filter, decide_eq_true_eq]

/-! #### PRODUCT_IN_USE (R19) -/

/-- What must not change of a product that is not EMPTY, by offset: its geometry, and in RENDERING its rs and its output
base. -/
def productChanges (old new : ProductEntry) (state : ProductState) : List (Prop × Nat) :=
  [(old.base ≠ new.base, 0), (old.width ≠ new.width, 0x18), (old.height ≠ new.height, 0x1A), (old.bin ≠ new.bin, 0x1C),
    (old.px0 ≠ new.px0, 0x24), (old.py0 ≠ new.py0, 0x28), (state = .rendering ∧ old.rs ≠ new.rs, 0x1F),
    (state = .rendering ∧ old.outBase ≠ new.outBase, 0x10)]

section InUse

variable {old new : ProductEntry} {state : ProductState}

theorem productChanged_namesFirst (h : state ≠ .empty) :
    NamesFirst ((productChanges old new state).map fun x => (¬x.1, x.2)) (productChanged old new state) := by
  have conditions : productChanged old new state = firstFailing [(decide (old.base = new.base), 0x00),
      (decide (old.width = new.width), 0x18), (decide (old.height = new.height), 0x1A), (decide (old.bin = new.bin), 0x1C),
      (decide (old.px0 = new.px0), 0x24), (decide (old.py0 = new.py0), 0x28),
      (decide (state = .rendering → old.rs = new.rs), 0x1F),
      (decide (state = .rendering → old.outBase = new.outBase), 0x10)] := by
    cases state with
    | empty => exact absurd rfl h
    | clearing | opened | frozen => exact (firstFailing_append_holds _ (by simp)).symm
    | rendering => simp [productChanged, firstFailing]
  rw [conditions]
  refine firstFailing_namesFirst ?_
  simp [productChanges, Decides, imp_iff_not_or]

theorem productChanged_none (h : state = .empty ∨ ∀ x ∈ productChanges old new state, ¬x.1) :
    productChanged old new state = none := by
  by_cases he : state = .empty
  · rw [he, productChanged]
  · refine (productChanged_namesFirst he).1.2 fun y hy => ?_
    obtain ⟨x, hx, rfl⟩ := List.mem_map.1 hy
    exact h.resolve_left he x hx

theorem productChanged_some (he : state ≠ .empty) {l1 l2 : List (Prop × Nat)} {x : Prop × Nat}
    (hs : productChanges old new state = l1 ++ x :: l2) (h1 : ∀ y ∈ l1, ¬y.1) (hx : x.1) :
    productChanged old new state = some (x.2 + 1) := by
  refine (productChanged_namesFirst he).2 (l1.map fun x => (¬x.1, x.2)) (¬x.1, x.2) (l2.map fun x => (¬x.1, x.2))
    (by rw [hs, List.map_append, List.map_cons]) (fun y hy => ?_) (not_not.2 hx)
  obtain ⟨z, hz, rfl⟩ := List.mem_map.1 hy
  exact h1 z hz

end InUse

/-! #### The statement, part by part -/

/-- The checks of the contents, clause by clause (R14). -/
theorem contentsVerdict_clauses {v : ReplyOutcome × Detail} {changed : Bool} {firstBad : Option Nat}
    {range overlap inUse : Option Detail} (hv : v = contentsVerdict changed firstBad range overlap inUse) :
    (changed = true → v = (.changed, Detail.zero)) ∧
    (∀ k, changed = false → firstBad = some k → v = (.memory, beatPlace k)) ∧
    (changed = false → firstBad = none →
      (∀ d, range = some d → v = (.range, d)) ∧
      (∀ d, range = none → overlap = some d → v = (.overlap, d)) ∧
      (∀ d, range = none → overlap = none → inUse = some d → v = (.productInUse, d)) ∧
      (range = none → overlap = none → inUse = none → v = (.done, Detail.zero))) := by
  subst hv
  refine ⟨?_, ?_, ?_⟩
  · rintro rfl
    rfl
  · rintro k rfl rfl
    rfl
  · rintro rfl rfl
    refine ⟨?_, ?_, ?_, ?_⟩
    · rintro d rfl
      rfl
    · rintro d rfl rfl
      rfl
    · rintro d rfl rfl rfl
      rfl
    · rintro rfl rfl rfl
      rfl

section Verdict

variable {b : Body} {l : Loader} {load : Load} {planBase fitted : Nat} {state : Nat → ProductState}
variable (hm : b.header 0 4 = 0x364E4C50) (hg : generationCheck l.argument l.complement (b.header 4 4) l.generation = none)
include hm hg

theorem Body.verdict_contents (hs : b.sum = b.header 8 4) :
    b.verdict l load planBase fitted state = contentsVerdict load.changed load.firstBad b.rangeCheck
      (b.plan.overlapCheck planBase fitted) (inUseCheck l.plan b.plan state) := by
  rw [Body.verdict_summed hm hg, if_neg (not_not.2 hs)]

theorem Body.verdict_sum (hs : b.sum ≠ b.header 8 4) :
    b.verdict l load planBase fitted state = (.check, ⟨.header, 0, 9, 0, 0⟩) := by
  rw [Body.verdict_summed hm hg, if_pos hs]

end Verdict

theorem Body.rangeCheck_none {b : Body} (h : ∀ x ∈ b.rangeTables, ∀ i < x.2.1, x.2.2 i = none) : b.rangeCheck = none :=
  b.rangeCheck_eq.trans (List.findSome?_eq_none_iff.2 fun x hx => firstEntry_none (h x hx))

/-- The first entry that fails of the first table with one (R17). -/
theorem Body.rangeCheck_some {b : Body} {l1 l2 : List (DetailTable × Nat × (Nat → Option Nat))}
    {x : DetailTable × Nat × (Nat → Option Nat)} {i code : Nat} (hl : b.rangeTables = l1 ++ x :: l2)
    (h1 : ∀ y ∈ l1, ∀ j < y.2.1, y.2.2 j = none) (hi : i < x.2.1) (hfirst : ∀ j < i, x.2.2 j = none)
    (hf : x.2.2 i = some code) : b.rangeCheck = some ⟨x.1, i, code, 0, 0⟩ := by
  rw [Body.rangeCheck_eq, hl]
  exact findSome?_first _ (fun y hy => firstEntry_none (h1 y hy)) (firstEntry_some hi hfirst hf)

/-- The regions of a plan, the frames taken tile by tile (R18). -/
theorem Plan.regions_eq (planBase : Nat) (p : Plan) :
    p.regions planBase = ⟨planBase, planBase + Config.planAreaSize, false⟩ ::
      (presentRegion p.bank0 Config.bankSize ++ presentRegion p.bank1 Config.bankSize ++
        (p.products.flatMap fun e => if e.base = 0 then [] else presentRegion e.base (8 * e.cells) ++
          presentRegion e.viewBase (2 * e.cells) ++ presentRegion e.outBase (2 * e.cells)) ++
        (p.tiles.mapIdx fun i t => [t.zeroBase, t.darkBase, t.flatBase].flatMap fun base =>
          if base = 0 then [] else [⟨base, p.frameEnd i base t, true⟩]).flatten) := by
  rw [Plan.regions, flatMap_range_length fun i t ht => ?_]
  rw [ht]

/-- R18: a frame ends where the last of its segment rows ends. -/
theorem Plan.frameEnd_spec (p : Plan) (tile base : Nat) (t : TileEntry) :
    (∀ x ∈ p.rowEnds tile base t, x ≤ p.frameEnd tile base t) ∧
      p.frameEnd tile base t ∈ base :: p.rowEnds tile base t := by
  rw [Plan.frameEnd_eq]
  exact foldl_max_spec _ _

/-- Settles O58, one lemma for each of its parts: the order of the checks (`contentsVerdict`), the order of the RANGE
tables (`Body.rangeTables`) and of the fields of each (`NamesFirst`), the regions (`RegionFails`), and the fields a
product in use keeps (`productChanges`). -/
theorem checksInOrder : Obligations.ChecksInOrder := by
  refine ⟨fun b l load planBase fitted state => ?_, fun b => ?_, fun b i => ?_, fun p planBase fitted => ?_,
    fun old new state => ?_⟩
  · refine ⟨fun hm => Body.verdict_marker hm, fun hm => ⟨fun d hg => Body.verdict_generation hm hg,
      fun hg hs => Body.verdict_sum hm hg hs, fun hg hs => ?_⟩⟩
    exact contentsVerdict_clauses (Body.verdict_contents hm hg hs)
  · exact ⟨Body.rangeCheck_none, fun l1 x l2 i code hl h1 hi hfirst hf => Body.rangeCheck_some hl h1 hi hfirst hf⟩
  · exact ⟨b.headerRange_namesFirst, b.tileRange_namesFirst i, b.segmentRange_namesFirst i, b.tileFilled_namesFirst i,
      b.pitchBound_namesFirst i, b.productRange_undefined i, b.productRange_namesFirst i⟩
  · intro region regions fails
    have list : p.regions planBase = regions := p.regions_eq planBase
    have fails_eq : fails = RegionFails fitted (p.regions planBase) := by
      rw [list]
      rfl
    rw [fails_eq]
    exact ⟨fun i h hfirst => Plan.overlapCheck_some h hfirst, Plan.overlapCheck_none, p.frameEnd_spec⟩
  · intro entry changes kept
    have same {i : Nat} (h : kept i) : productChanged (entry old i) (entry new i) (state i) = none :=
      productChanged_none h
    exact ⟨rfl, fun h => firstEntry_none fun i hi => same (h i hi), fun i hi hfirst hs l1 x l2 hl h1 hx =>
      firstEntry_some hi (fun j hj => same (hfirst j hj)) (productChanged_some hs hl h1 hx)⟩

end Sys2Proof.Machine

namespace Sys2Proof.Machine

/-! ### COMMIT_PLAN (O28) -/

theorem State.exec_commitPlan {s : State} {r : RequestRecord} (h : s.Dispatched 1 r) :
    exec .commitPlan s = .next (s.takeCommit r) := by
  change s.happen ((s.dispatched 1).map fun r => s.takeCommit r) = _
  simp [State.happen, h.running, h.hand]

/-- A load begins with the ask for the first beat of the body (R12). -/
theorem State.beginLoad_eq {s : State} (h : s.asking isPlanRead = false) (immediate : Bool) :
    s.beginLoad immediate = (s.onLoader fun l => { l with load := some ⟨1, [], none, false, immediate⟩ }).ask
      ⟨.planRead 0, s.planBase, none⟩ := by
  have left : 0 < Config.bodyBeats := by decide
  exact (if_neg (Bool.eq_false_iff.1 h)).trans (if_pos left)

/-- The commit is pending, with what its request gave for the GENERATION check (R10). -/
def State.markCommit (r : RequestRecord) (s : State) : State :=
  s.onLoader fun l => { l with pendingMark := true, argument := r.argument, complement := r.complement }

section TakeCommit

variable {s : State} {r : RequestRecord}

theorem State.takeCommit_busy (h : s.loader.pendingMark = true) : s.takeCommit r = s.reply .busy Detail.zero := if_pos h

variable (h : s.loader.pendingMark = false)
include h

theorem State.takeCommit_deferred (hx : s.expo.records ≠ []) :
    s.takeCommit r = (s.markCommit r).reply .commitPending Detail.zero := by
  have active : (!s.expo.records.isEmpty) = true := by simpa using hx
  exact (if_neg (by simp [h])).trans (if_pos active)

theorem State.takeCommit_loads (hx : s.expo.records = []) :
    s.takeCommit r = ((s.markCommit r).keepInHand 0).beginLoad true := by
  have idle : ¬(!s.expo.records.isEmpty) = true := by simp [hx]
  exact (if_neg (by simp [h])).trans (if_neg idle)

end TakeCommit

/-- Settles O28: the request in its three cases, and the load it begins (`State.beginLoad_eq`). -/
theorem commitTaken : Obligations.CommitTaken := by
  intro s r hd marked
  rw [State.exec_commitPlan hd]
  refine ⟨fun h => ?_, fun h hx => ?_, fun h hx ha => ?_⟩
  · rw [State.takeCommit_busy h]
  · rw [State.takeCommit_deferred h hx]
    rfl
  · rw [State.takeCommit_loads h hx]
    exact congrArg Host.Outcome.next (State.beginLoad_eq (s := (s.markCommit r).keepInHand 0) ha true)

/-! ### OPEN_PRODUCT (O30) -/

theorem State.exec_openProduct {s : State} {r : RequestRecord} (h : s.Dispatched 2 r) :
    exec .openProduct s = .next (s.takeOpen r) := by
  change s.happen ((s.dispatched 2).map fun r => s.takeOpen r) = _
  simp [State.happen, h.running, h.hand]

/-- A clear job with a cell left asks for the write of the next (R151). -/
theorem State.engineAsk_clear {s : State} {e : Engine} (he : s.prod.engine = e) (hk : e.kind = some .clear)
    (hh : e.halting = none) (ha : s.asking isEngineJob = false) (hn : e.next < e.total) :
    s.engineAsk = s.ask ⟨.clearWrite, cellAddress e.base e.next, some ⟨0xFF#8, 0#64⟩⟩ := by
  have empty : CellRecord.empty.word = 0#64 := by decide
  simp [State.engineAsk, he, ha, hh, hk, hn, empty]

/-- A clear job starts by writing its first cell (R150, R151). -/
theorem State.startJob_clear {s : State} {p : Nat} {q : ProductEntry} (ha : s.asking isEngineJob = false)
    (hc : 0 < q.width * q.height) :
    s.startJob .clear p q = ((s.setProduct p ⟨.clearing, (s.product p).mark⟩).onEngine fun _ =>
      { kind := some .clear, product := p, total := q.width * q.height, done := 0, next := 0, base := q.base,
        rs := q.rs, outBase := q.outBase, outUnit := 0, values := [], halting := none }).ask
      ⟨.clearWrite, q.base, some ⟨0xFF#8, 0#64⟩⟩ := by
  let job : Engine :=
    { kind := some .clear, product := p, total := q.width * q.height, done := 0, next := 0, base := q.base,
      rs := q.rs, outBase := q.outBase, outUnit := 0, values := [], halting := none }
  let started : State := (s.setProduct p ⟨.clearing, (s.product p).mark⟩).onEngine fun _ => job
  have first : cellAddress job.base job.next = q.base := by simp [job, cellAddress]
  calc s.startJob .clear p q
      = started.engineAsk := rfl
    _ = _ := State.engineAsk_clear (s := started) (e := job) rfl rfl rfl ha hc
    _ = _ := by rw [first]

section TakeOpen

variable {s : State} {r : RequestRecord}

theorem State.takeOpen_unplanned (h : s.part ≠ .planned) :
    s.takeOpen r = s.reply .noPlan (s.takenDetail r.product 0) := if_pos h

variable (hp : s.part = .planned)
include hp

theorem State.takeOpen_undefined (h : 4 ≤ r.product ∨ s.productEntry r.product = none) :
    s.takeOpen r = s.reply .badArgument (s.takenDetail r.product 0) := by
  have undefined_entry : (if r.product < 4 then s.productEntry r.product else none) = none := by
    rcases h with h | h
    · exact if_neg (Nat.not_lt.2 h)
    · rw [h, ite_self]
  simp [State.takeOpen, hp, undefined_entry, State.takenDetail]

/-- Of a defined product, OPEN_PRODUCT goes by its argument, the product's state and the engine (R144). -/
theorem State.takeOpen_defined {q : ProductEntry} (h : r.product < 4) (hq : s.productEntry r.product = some q) :
    s.takeOpen r = if r.argument ≠ argumentKeep ∧ r.argument ≠ argumentClear then
        s.reply .badArgument (s.takenDetail r.product 0)
      else if (s.product r.product).state ≠ .empty then s.reply .badState (s.takenDetail r.product 0)
      else if s.engineRuns then s.reply .busy (s.takenDetail r.product 0)
      else if r.argument = argumentKeep then
        (s.setProduct r.product { s.product r.product with state := .opened }).reply .done (s.takenDetail r.product 0)
      else (s.startJob .clear r.product q).reply .accepted (s.takenDetail r.product q.cells) := by
  simp only [State.takeOpen, hp, ne_eq, not_true_eq_false, if_false, if_pos h, hq]
  rfl

/-- An argument that is neither KEEP nor CLEAR is refused for a defined product too (R144). -/
theorem State.takeOpen_refuses (h : 4 ≤ r.product ∨ s.productEntry r.product = none ∨
    (r.argument ≠ argumentKeep ∧ r.argument ≠ argumentClear)) :
    s.takeOpen r = s.reply .badArgument (s.takenDetail r.product 0) := by
  by_cases undefined_product : 4 ≤ r.product ∨ s.productEntry r.product = none
  · exact State.takeOpen_undefined hp undefined_product
  · obtain ⟨exists_product, defined_product⟩ := not_or.1 undefined_product
    obtain ⟨q, hq⟩ := Option.ne_none_iff_exists'.1 defined_product
    have neither := (h.resolve_left exists_product).resolve_left defined_product
    rw [State.takeOpen_defined hp (Nat.not_le.1 exists_product) hq, if_pos neither]

end TakeOpen

/-- Settles O30: the checks in their order, KEEP's effect, and the job that CLEAR starts (`State.startJob_clear`). -/
theorem openTaken : Obligations.OpenTaken := by
  intro s r hd p detail
  rw [State.exec_openProduct hd]
  refine ⟨fun h => ?_, fun hp h => ?_, fun q hp h hq harg => ?_⟩
  · rw [State.takeOpen_unplanned h]
    rfl
  · rw [State.takeOpen_refuses hp h]
    rfl
  · have either : ¬(r.argument ≠ argumentKeep ∧ r.argument ≠ argumentClear) := fun hn => harg.elim hn.1 hn.2
    rw [State.takeOpen_defined hp h hq, if_neg either]
    refine ⟨fun hs => ?_, fun hs hr => ?_, fun hs hr hk => ?_, fun hs hr hc ha hcells => ?_⟩
    · rw [if_pos hs]
      rfl
    · rw [if_neg (not_not.2 hs), if_pos hr]
      rfl
    · have keep : r.argument = argumentKeep := hk
      rw [if_neg (not_not.2 hs), if_neg (by simp [hr]), if_pos keep]
      rfl
    · have clear : ¬r.argument = argumentKeep := by rw [hc]; decide
      rw [if_neg (not_not.2 hs), if_neg (by simp [hr]), if_neg clear, State.startJob_clear ha hcells]
      rfl

end Sys2Proof.Machine

namespace Sys2Proof.Machine

/-! ### The plan body and its installation (O29) -/

/-! #### The late condition of the banks (R6) -/

section ClearLate

variable {s : State} {old new b : Nat}

/-- The base of a bank changes or the bank becomes absent, and it alone loses its late condition (R6). -/
theorem State.bank_clearLate (k : Nat) : (s.clearLate old new b).bank k =
    if b = k ∧ (old ≠ new ∨ new = 0) then { s.bank k with late := false } else s.bank k := by
  by_cases hc : old ≠ new ∨ new = 0
  · rw [State.clearLate, if_pos hc]
    simp only [State.bank, State.onCapture_capture, List.getD_eq_getElem?_getD, List.getElem?_modify, hc, and_true]
    by_cases hb : b = k
    · simp only [if_pos hb]
      cases s.capture.banks[k]? <;> rfl
    · simp only [if_neg hb]
      cases s.capture.banks[k]? <;> rfl
  · rw [State.clearLate, if_neg hc, if_neg fun h => hc h.2]

theorem State.length_clearLate : (s.clearLate old new b).capture.banks.length = s.capture.banks.length := by
  unfold State.clearLate
  split
  · exact List.length_modify ..
  · rfl

/-- Nothing but the banks. -/
theorem State.clearLate_eq : s.clearLate old new b =
    { s with capture := { s.capture with banks := (s.clearLate old new b).capture.banks } } := by
  unfold State.clearLate
  split <;> rfl

end ClearLate

/-- The base the plan in force gives a bank; 0 without a plan. -/
def Loader.oldBase (l : Loader) (bank : Nat) : Nat :=
  match l.plan with
  | some q => q.bankBase bank
  | none => 0

section Install

variable (s : State) (p : Plan) (g : Nat)

/-- The state with the late conditions of both banks seen to. -/
def State.lateSeen : State :=
  State.clearLate (s.loader.oldBase 1) p.bank1 1 (State.clearLate (s.loader.oldBase 0) p.bank0 0 s)

theorem State.install_capture : (s.install p g).capture = (s.lateSeen p).capture := rfl

theorem State.lateSeen_eq : s.lateSeen p = { s with capture := { s.capture with banks := (s.lateSeen p).capture.banks } } := by
  unfold State.lateSeen
  rw [State.clearLate_eq, State.clearLate_eq (s := s)]

/-- R21: what an installation changes. -/
theorem State.install_eq : s.install p g = { s with
    loader := { s.loader with plan := some p, generation := g }
    part := .planned
    capture := { s.capture with banks := (s.install p g).capture.banks } } := by
  rw [State.install_capture]
  change { ((s.lateSeen p).onLoader fun l => { l with plan := some p, generation := g }) with part := .planned } = _
  rw [State.lateSeen_eq]
  rfl

theorem State.length_install : (s.install p g).capture.banks.length = s.capture.banks.length := by
  rw [State.install_capture, State.lateSeen, State.length_clearLate, State.length_clearLate]

theorem State.bank_install_other {k : Nat} (hk : 2 ≤ k) : (s.install p g).bank k = s.bank k := by
  change (s.lateSeen p).bank k = _
  rw [State.lateSeen, State.bank_clearLate, if_neg (by omega), State.bank_clearLate, if_neg (by omega)]

/-- A bank keeps its late condition when it keeps a base (R6). -/
theorem State.bank_install {k : Nat} (hk : k < 2) : (s.install p g).bank k =
    if s.loader.oldBase k ≠ p.bankBase k ∨ p.bankBase k = 0 then { s.bank k with late := false } else s.bank k := by
  change (s.lateSeen p).bank k = _
  match k, hk with
  | 0, _ =>
    rw [State.lateSeen, State.bank_clearLate, if_neg (by omega), State.bank_clearLate]
    simp only [true_and, Plan.bankBase, if_true]
  | 1, _ =>
    rw [State.lateSeen, State.bank_clearLate, State.bank_clearLate]
    simp [Plan.bankBase]

end Install

/-! #### The beats -/

theorem State.exec_planBodyBeatDelivered {s : State} {which unit k : Nat} {data : Word} {found : EccCondition}
    {rest : List Access} (h : s.Delivers isPlanRead which (.planRead k) unit data found rest) :
    exec (.planBodyBeatDelivered which) s = .next ((s.delivered found rest).planDelivered k data found).settle := by
  change s.happen (s.planEvent which) = _
  simp [State.happen, h.running, State.planEvent, h.deliverNth]

/-- The load with one more beat, the lowest damaged one remembered (R12, log 24). -/
def Load.keeps (l : Load) (k : Nat) (data : Word) (found : EccCondition) : Load :=
  { l with
    got := l.got ++ [(k, data)]
    firstBad := if found = .uncorrectable then
        (match l.firstBad with
          | some j => some (min j k)
          | none => some k) else l.firstBad }

section Delivered

variable {s : State} {l : Load} {k : Nat} {data : Word} {found : EccCondition} (hl : s.loader.load = some l)
include hl

/-- A beat is kept, and the last one ends the load (R12). -/
theorem State.planDelivered_eq : s.planDelivered k data found =
    if l.got.length + 1 = Config.bodyBeats then s.finishLoad (l.keeps k data found)
    else s.onLoader fun x => { x with load := some (l.keeps k data found) } := by
  have count : (l.keeps k data found).got.length = l.got.length + 1 := List.length_append
  rw [← count, State.planDelivered, hl]
  unfold Load.keeps
  cases found with
  | uncorrectable =>
    rw [if_pos rfl]
    cases hb : l.firstBad <;> simp only [hb]
  | correct | corrected => rfl

end Delivered

/-- What the checks of the body give (R14). -/
def State.verdictOf (s : State) (load : Load) : ReplyOutcome × Detail :=
  let body : Body := bytesOf (gathered Config.bodyBeats load.got)
  body.verdict s.loader load s.planBase s.fitted fun i => (s.product i).state

/-- The delivery of a beat changes nothing the checks look at. -/
theorem State.delivered_verdictOf (s : State) (found : EccCondition) (rest : List Access) (load : Load) :
    (s.delivered found rest).verdictOf load = s.verdictOf load := by
  simp only [State.verdictOf, State.planBase, State.fitted, State.product, State.delivered_loader, State.delivered_straps,
    State.delivered_prod]

/-- The body as read. -/
def Load.body (l : Load) : Body := bytesOf (gathered Config.bodyBeats l.got)

theorem State.finishLoad_eq (s : State) (load : Load) : s.finishLoad load =
    (if (s.verdictOf load).1 = .done then s.install load.body.plan (load.body.header 4 4) else s).recordOutcome
      load.immediate (s.verdictOf load).1 (s.verdictOf load).2 := by
  unfold State.finishLoad State.verdictOf Load.body
  dsimp only

/-- Settles O29: a beat is kept or ends the load (`State.planDelivered_eq`), the checks decide (`State.finishLoad_refused`,
`State.finishLoad_done`), and what an installation changes (`State.install_eq`, `State.bank_install`). -/
theorem planBeats : Obligations.PlanBeats := by
  refine ⟨?_, ?_⟩
  · intro s which unit k data found rest l h hl t bad l' body v record answer
    have load_eq : t.loader.load = some l := (congrArg Loader.load (s.delivered_loader found rest)).trans hl
    have verdict_eq : t.verdictOf l' = v := s.delivered_verdictOf found rest l'
    have kept_eq : l.keeps k data found = l' := rfl
    have count : (1448 : Nat) = Config.bodyBeats := rfl
    rw [State.exec_planBodyBeatDelivered h, State.planDelivered_eq load_eq, kept_eq, count]
    refine ⟨fun hn => ?_, fun hn hv => ?_, fun hn hv => ?_⟩
    · rw [if_neg hn]
    · rw [if_pos hn, State.finishLoad_eq, verdict_eq, if_neg hv]
      rfl
    · rw [if_pos hn, State.finishLoad_eq, verdict_eq, if_pos hv]
      rfl
  · intro s p g t old
    refine ⟨s.install_eq p g, s.length_install p g, fun k hk => ?_, fun k hk => s.bank_install_other p g hk⟩
    have old_eq : old k = s.loader.oldBase k := rfl
    have kept : t.bank k = _ := s.bank_install p g hk
    rw [kept, old_eq]
    by_cases hc : s.loader.oldBase k ≠ p.bankBase k ∨ p.bankBase k = 0
    · have lost : ¬(p.bankBase k = s.loader.oldBase k ∧ p.bankBase k ≠ 0) := fun h => hc.elim (· h.1.symm) h.2
      rw [if_pos hc]
      exact ⟨rfl, by simp [lost]⟩
    · obtain ⟨same, present⟩ := not_or.1 hc
      rw [if_neg hc]
      exact ⟨rfl, by simp [not_not.1 same, present]⟩

end Sys2Proof.Machine

namespace Sys2Proof.Machine

/-! ### The completion of bus reads and writes (O22) -/

/-- The read completes its beat (R171), once the earlier writes of its unit have completed (R186, log 11). -/
theorem State.exec_frameBusReadDelivered {s : State} {which unit : Nat} {b : BusBeat} {data : Word}
    {found : EccCondition} {rest : List Access}
    (h : (s.landBefore isBusRead which).Delivers isBusRead which (.busRead b) unit data found rest) :
    exec (.frameBusReadDelivered which) s =
      .next (((s.landBefore isBusRead which).delivered found rest).respond b (readAnswer data found)) := by
  have running : s.inReset = false :=
    (congrArg Kept.inReset (s.landBefore_kept isBusRead which).1).symm.trans h.running
  change s.happen (s.busReadEvent which) = _
  simp [State.happen, running, State.busReadEvent, h.deliverNth]

/-- The unreported writes of a read's unit complete as the last of them leaves the unit (R186, log 11). -/
theorem State.landBefore_last_write {s : State} {pick : Job → Bool} {before after l1 l2 : List Access} {a : Access}
    {job : Job} {w : StoredUnit} {f : Option EccCondition} (hs : s.port.inFlight = before ++ a :: after)
    (ha : a.isWrite = false) (hp : pick a.job = true) (hb : blockedBy before a.unit = false)
    (hl : before = l1 ++ ⟨job, a.unit, .write w f⟩ :: l2) (hlast : ∀ x ∈ l2, x.isWrite = true → x.unit ≠ a.unit) :
    s.landBefore pick (before.countP fun a => !a.isWrite && pick a.job) =
      (s.setMem (s.mem.writeUnit a.unit w)).onPort fun p =>
        { p with inFlight := before.filter (fun x => !x.writesTo a.unit) ++ a :: after } := by
  have written : (before.any fun e => e.writesTo a.unit) = true :=
    List.any_eq_true.2 ⟨⟨job, a.unit, .write w f⟩, by simp [hl], by simp [Access.writesTo, Access.isWrite]⟩
  have left : unitAfter (s.mem.readUnit a.unit) a.unit before = w := by
    rw [hl]
    exact unitAfter_last_write l1 job w f hlast
  rw [State.landBefore, hs, pickNth_split (fun a => !a.isWrite && pick a.job) before a after (by simp [ha, hp])]
  simp only [hb, written, left, Bool.not_true, Bool.or_self, Bool.false_eq_true, if_false]

section WordWaits

variable {s : State} {b : BusBeat}

/-- A beat that enables no byte of a control word, in a part that has them, takes none (R3, R174). -/
theorem State.takesWord_none (h : s.part = .bypass ∨ s.wordAt b.unit = none ∨ b.enables.extractLsb' 0 4 = 0#4) :
    s.takesWord b = false := by
  rcases h with h | h | h
  · simp [State.takesWord, h]
  · simp [State.takesWord, h]
  · simp [State.takesWord, wordTouch_untouched h]

theorem State.takesWord_whole (hp : s.part ≠ .bypass) (hw : s.wordAt b.unit ≠ none)
    (he : b.enables.extractLsb' 0 4 = 0xF#4) : s.takesWord b = true := by
  simp [State.takesWord, hp, Option.isSome_iff_ne_none, hw, wordTouch_whole he]

/-- Its completed store means nothing for the control words (R3, R174). -/
theorem State.wordStored_none (h : s.part = .bypass ∨ s.wordAt b.unit = none ∨ b.enables.extractLsb' 0 4 = 0#4) :
    s.wordStored b = s := by
  rcases h with h | h | h
  · exact if_pos h
  · rw [State.wordStored, h, ite_self]
  · exact State.wordStored_untouched h

/-- A store that takes a word waits for those of earlier beats of its burst (R174). -/
theorem State.wordBlocked_burst {pick : Job → Bool} {c : BusBeat} {ready r : Bool} {unit : Nat} {after : StoredUnit}
    {found : Option EccCondition} {before later : List Access} {x : Access}
    (hs : s.port.inFlight = before ++ ⟨.busWrite b ready, unit, .write after found⟩ :: later)
    (hpick : pick (.busWrite b ready) = true) (hx : x ∈ before) (hj : x.job = .busWrite c r)
    (hb : s.takesWord b = true) (hc : s.takesWord c = true) (hbefore : c.precedes b = true) :
    s.wordBlocked pick (before.countP fun a => a.isWrite && pick a.job) = true := by
  rw [State.wordBlocked, hs, pickNth_split (fun a => a.isWrite && pick a.job) before _ later
    (by simp [Access.isWrite, hpick])]
  simp only [State.wordWaits, hb, Bool.true_and]
  exact List.any_eq_true.2 ⟨x, hx, by simp [hj, hc, hbefore]⟩

end WordWaits

/-- FRAME_BUS_WRITE_COMPLETE speaks of every frame bus write. -/
theorem isBusWrite_and_any : (fun j => isBusWrite j && (fun _ => true) j) = isBusWrite := by
  funext j
  exact Bool.and_true _

theorem State.exec_frameBusWriteComplete {s : State} {which unit : Nat} {b : BusBeat} {ready : Bool}
    {after : StoredUnit} {found : Option EccCondition} {rest : List Access}
    (h : s.Completes isBusWrite which (.busWrite b ready) unit after found rest) (hw : s.takesWord b = false) :
    exec (.frameBusWriteComplete which) s = .next ((s.landed unit after found rest).storeDone b) := by
  have blocked := h.wordBlocked hw
  rw [← isBusWrite_and_any] at h blocked
  change s.happen (s.busWriteEvent (fun _ => true) which) = _
  simp [State.happen, h.running, h.busWriteEvent blocked]

/-- Settles O22: a read by `State.exec_frameBusReadDelivered` and what completes before it by `State.landBefore_none` and
`State.landBefore_last_write`; a write by `State.exec_frameBusWriteComplete`, or waiting by `State.wordBlocked_burst`. -/
theorem busCompletions : Obligations.BusCompletions := by
  refine ⟨?_, ?_, ?_, ?_⟩
  · intro s which unit b data found rest t h
    exact State.exec_frameBusReadDelivered h
  · intro s b unit data found before later hs hb which
    exact ⟨fun hn => State.landBefore_none hs rfl rfl fun e he => by
        have unwritten := hn e he
        simpa [Access.writesTo] using unwritten,
      fun l1 l2 job w f hl hlast => State.landBefore_last_write hs rfl rfl hb hl hlast⟩
  · intro s which unit b ready after found rest h hn
    have there : (s.landed unit after found rest).part = .bypass ∨ (s.landed unit after found rest).wordAt b.unit = none ∨
        b.enables.extractLsb' 0 4 = 0#4 := by
      rwa [State.landed_part, State.landed_wordAt]
    rw [State.exec_frameBusWriteComplete h (State.takesWord_none hn), State.storeDone, State.wordStored_none there]
  · rintro s unit b c ready after found before later hr hs ⟨x, hx, r, hj⟩ hp hbw hbe hcw hce hm ha hl hi
    have precedes : c.precedes b = true := by simp [BusBeat.precedes, hm, ha, hl, hi]
    have blocked := State.wordBlocked_burst (pick := isBusWrite) hs rfl hx hj (State.takesWord_whole hp hbw hbe)
      (State.takesWord_whole hp hcw hce) precedes
    change s.happen (s.busWriteEvent (fun _ => true) _) = _
    have waits : s.busWriteEvent (fun _ => true) (before.countP fun x => x.isWrite && isBusWrite x.job) = none := by
      simp only [State.busWriteEvent, Bool.and_true]
      exact if_pos blocked
    rw [waits]
    simp [State.happen]

end Sys2Proof.Machine

namespace Sys2Proof.Machine

/-! ### The end of a reply's and of a status block's writes (O54) -/

/-- What the completion of writes at the port leaves: all that neither the frame store, the accesses in flight nor the
counts of what their reads found touch. -/
theorem State.landAll_unchanged {α : Type} {g : State → α}
    (hport : ∀ (t : State) (m : Memory) (l : List Access),
      g ((t.setMem m).onPort fun p => { p with inFlight := l }) = g t)
    (hcount : ∀ (t : State) (c : EccCondition), g (t.countFound c) = g t) (pick : Job → Bool) (n : Nat) (s : State) :
    g (s.landAll pick n) = g s := by
  induction n generalizing s with
  | zero => rfl
  | succ n ih =>
    rw [State.landAll]
    split
    · rfl
    · next a t ht =>
      obtain ⟨_, _, unit, _, -, -, -, -, rfl⟩ := State.landNth_some ht
      rw [ih, hcount, hport]

section LandAll

variable (s : State) (pick : Job → Bool) (n : Nat)

@[simp] theorem State.landAll_bus : (s.landAll pick n).bus = s.bus :=
  State.landAll_unchanged (g := State.bus) (fun _ _ _ => rfl) State.countFound_bus pick n s

@[simp] theorem State.landAll_loader : (s.landAll pick n).loader = s.loader :=
  State.landAll_unchanged (g := State.loader) (fun _ _ _ => rfl) State.countFound_loader pick n s

@[simp] theorem State.landAll_expo : (s.landAll pick n).expo = s.expo :=
  State.landAll_unchanged (g := State.expo) (fun _ _ _ => rfl) State.countFound_expo pick n s

@[simp] theorem State.landAll_straps : (s.landAll pick n).straps = s.straps :=
  State.landAll_unchanged (g := State.straps) (fun _ _ _ => rfl) State.countFound_straps pick n s

@[simp] theorem State.landAll_asks : (s.landAll pick n).port.asks = s.port.asks :=
  State.landAll_unchanged (g := fun t => t.port.asks) (fun _ _ _ => rfl) State.countFound_asks pick n s

@[simp] theorem State.landAll_latched : (s.landAll pick n).notice.latched = s.notice.latched :=
  State.landAll_unchanged (g := fun t => t.notice.latched) (fun _ _ _ => rfl)
    (fun t c => congrArg Kept.latched (t.countFound_kept c)) pick n s

@[simp] theorem State.landAll_mask : (s.landAll pick n).notice.mask = s.notice.mask :=
  State.landAll_unchanged (g := fun t => t.notice.mask) (fun _ _ _ => rfl)
    (fun t c => congrArg Kept.mask (t.countFound_kept c)) pick n s

end LandAll

section ReplyEnds

variable {s : State} {w : ReplyWrite} (hr : s.inReset = false) (hw : s.notice.reply = some w)
  (ha : s.asking isReplyUnit = false) (hall : w.asked = w.units.length)
  (hend : canEndAll isReplyUnit [] s.port.inFlight = true)

include hr hw ha hall hend in
theorem State.exec_replyWriteComplete :
    exec .replyWriteComplete s = .next (s.landAll isReplyUnit s.port.inFlight.length).replyDone := by
  change s.happen s.replyEvent = _
  simp [State.happen, hr, State.replyEvent, hw, ha, hall, hend]

/-- The request of a written reply leaves the hand (R179). -/
def State.replied (s : State) : State :=
  ((s.onNotice fun n => { n with reply := none }).onBus fun f => { f with inHand := none }).raise .requestDone

theorem State.replyDone_eq (s : State) :
    s.replyDone = if s.restartInHand = true then s.replied.beginDeferred else s.replied := rfl

/-- A deferred commit waits or begins its load (R11, R24). -/
theorem State.replied_beginDeferred (s : State) : s.replied.beginDeferred =
    if s.loader.pendingMark = true ∧ s.loader.load = none ∧ s.expo.records = [] then s.replied.beginLoad false
    else s.replied := by
  have loader : s.replied.loader = s.loader := State.raise_loader ..
  have expo : s.replied.expo = s.expo := State.raise_expo ..
  have hand : s.replied.restartInHand = false := by
    have empty : s.replied.bus.inHand = none := congrArg BusFront.inHand (State.raise_bus ..)
    rw [State.restartInHand, empty]
  rw [State.beginDeferred, loader, expo, hand]
  simp only [and_true]

end ReplyEnds

section StatusEnds

variable {s : State} {w : StatusWrite}

theorem reportsBefore_none {l : List Access} (h : ∀ x ∈ l, isReportUnit x.job = false) : reportsBefore l = 0 := by
  rw [reportsBefore, List.length_eq_zero_iff, List.filter_eq_nil_iff]
  exact fun x hx => by simp [h x ((List.takeWhile_sublist _).mem hx)]

theorem State.exec_statusWriteComplete (hr : s.inReset = false) (hw : s.notice.status = some w)
    (ha : s.asking isStatusUnit = false) (hall : w.asked = w.units.length)
    (hend : canEndAll isStatusUnit [] s.port.inFlight = true) (hreports : ∀ x ∈ s.port.inFlight, isReportUnit x.job = false) :
    exec .statusWriteComplete s = .next ((s.landAll isStatusUnit s.port.inFlight.length).finishStatus w) := by
  change s.happen s.statusEvent = _
  simp [State.happen, hr, State.statusEvent, hw, ha, hall, hend, reportsBefore_none hreports, State.landAll]

/-- The causes a published block showed are latched, and NOTICE follows (R198). -/
theorem State.finishStatus_eq (s : State) {latched : BitVec 9}
    (h : (if w.publishes then s.notice.latched ||| w.causes else s.notice.latched) = latched) :
    s.finishStatus w = s.onNotice fun n => { n with
      status := none, latched := latched, line := decide (latched &&& ~~~n.mask ≠ 0#9) } := by
  subst h
  exact State.onNotice_congr rfl

end StatusEnds

/-- Settles O54: the writes complete (`State.landAll_unchanged` says what they leave), the request leaves the hand and a
deferred commit may begin (`State.replied_beginDeferred`), or the block's causes are latched (`State.finishStatus_eq`). -/
theorem noticeWritesEnd : Obligations.NoticeWritesEnd := by
  intro s hr hreply hstatus
  refine ⟨fun w hw hall hend => ?_, fun w hw hall hend hreports => ?_⟩
  · intro replied loads
    let u : State := s.landAll isReplyUnit s.port.inFlight.length
    have hand_eq : u.restartInHand = s.restartInHand := by
      rw [State.restartInHand, State.landAll_bus]
      rfl
    have event : exec .replyWriteComplete s = .next (if loads then replied.beginLoad false else replied) := by
      rw [State.exec_replyWriteComplete hr hw hreply hall hend, State.replyDone_eq, hand_eq, State.replied_beginDeferred,
        State.landAll_loader, State.landAll_expo, ← ite_and]
      rfl
    refine ⟨fun hn => by rw [event, if_neg hn], fun hl ha => ?_⟩
    have idle : replied.asking isPlanRead = false := by
      have asks_eq : replied.port.asks = s.port.asks :=
        (congrArg Port.asks (State.raise_port ..)).trans (s.landAll_asks ..)
      rw [State.asking, asks_eq]
      exact ha
    have base_eq : replied.planBase = s.planBase := by
      have straps_eq : replied.straps = s.straps := (State.raise_straps ..).trans (s.landAll_straps ..)
      rw [State.planBase, straps_eq]
      rfl
    rw [event, if_pos hl, State.beginLoad_eq idle, base_eq]
  · intro latched
    have latched_eq : (if w.publishes then (s.landAll isStatusUnit s.port.inFlight.length).notice.latched ||| w.causes
        else (s.landAll isStatusUnit s.port.inFlight.length).notice.latched) = latched := by
      rw [State.landAll_latched]
    rw [State.exec_statusWriteComplete hr hw hstatus hall hend hreports, State.finishStatus_eq _ latched_eq]

end Sys2Proof.Machine

namespace Sys2Proof.Machine

/-! ### Hardware reset (O7) -/

/-- A word is made of its eight bytes. -/
theorem Word.ofBytes_congr {f g : Nat → Byte} (h : ∀ j < 8, f j = g j) : Word.ofBytes f = Word.ofBytes g := by
  simp only [Word.ofBytes, h 0 (by decide), h 1 (by decide), h 2 (by decide), h 3 (by decide), h 4 (by decide),
    h 5 (by decide), h 6 (by decide), h 7 (by decide)]

/-- A unit apart from the one written keeps its bytes and check bits. -/
theorem Memory.readUnit_writeUnit_other (m : Memory) {u v : Nat} (x : StoredUnit) (h : v + 8 ≤ u ∨ u + 8 ≤ v) :
    (m.writeUnit v x).readUnit u = m.readUnit u := by
  have bytes : (m.writeUnit v x).readWord u = m.readWord u := by
    refine Word.ofBytes_congr fun j hj => m.readByte_writeUnit_other v x (u + j) ?_
    omega
  rw [Memory.readUnit, bytes, m.condition_writeUnit_other v x (by omega)]
  rfl

/-- A unit that no write in flight straddles holds its earlier content, or what one of the writes in flight leaves there
(R116, R186). -/
theorem readUnit_reachAll {u : Nat} {l : List Access}
    (hl : ∀ x ∈ l, x.isWrite = true → x.unit = u ∨ x.unit + 8 ≤ u ∨ u + 8 ≤ x.unit) (lost : List Nat) (n : Nat)
    (m : Memory) (hm : m.wf = true) :
    (reachAll lost n l m).readUnit u = m.readUnit u ∨
      ∃ x ∈ l, x.unit = u ∧ ∃ after found, x.kind = .write after found ∧ (reachAll lost n l m).readUnit u = after := by
  induction l generalizing lost n m with
  | nil => exact .inl rfl
  | cons x l ih =>
    have later (lost n m) (hm : Memory.wf m = true) := ih (fun y hy => hl y (List.mem_cons_of_mem _ hy)) lost n m hm
    have among {lost n m} (h : ∃ y ∈ l, y.unit = u ∧ ∃ after found, y.kind = .write after found ∧
        (reachAll lost n l m).readUnit u = after) :
        ∃ y ∈ x :: l, y.unit = u ∧ ∃ after found, y.kind = .write after found ∧
          (reachAll lost n l m).readUnit u = after := by
      obtain ⟨y, hy, hyu⟩ := h
      exact ⟨y, List.mem_cons_of_mem _ hy, hyu⟩
    simp only [reachAll]
    split
    · exact (later _ _ _ hm).imp_right among
    · next after found hk =>
      split
      · have reached := later lost (n + 1) _ (m.writeUnit_wf x.unit after hm)
        rcases hl x List.mem_cons_self (by simp [Access.isWrite, hk]) with hu | apart
        · refine reached.elim (fun h => .inr ⟨x, List.mem_cons_self, hu, after, found, hk, ?_⟩) fun h => .inr (among h)
          rw [h, hu, Memory.readUnit_writeUnit _ _ _ hm]
        · rw [Memory.readUnit_writeUnit_other m after apart] at reached
          exact reached.imp_right among
      · exact (later _ _ _ hm).imp_right among

/-- Settles O7: the reset state by its definition, the frame store by `Memory.Lands.reachAll` and `readUnit_reachAll`. -/
theorem resetAsserted : Obligations.ResetAsserted := by
  intro s hr
  have resets : exec .resetAssert s = .next s.hardReset := congrArg Host.Outcome.next (if_neg (by simp [hr]))
  refine ⟨s.hardReset, resets, rfl, rfl, rfl, rfl, rfl, rfl, rfl, rfl, rfl, rfl, rfl, rfl, rfl, rfl, ?_, ?_⟩
  · exact (Memory.Lands.reachAll [] s.freeCount s.port.inFlight s.mem).byte
  · exact fun u hm hl => readUnit_reachAll hl [] s.freeCount s.mem hm

end Sys2Proof.Machine

namespace Sys2Proof.Machine

/-! ### What sets the plan, the straps, the mask and the latched causes (O9) -/

/-- Which of the control settings a command can set: the plan with its generation and the part state, the straps, the
mask, the latched causes. -/
structure Sets where
  plan : Bool
  straps : Bool
  mask : Bool
  latched : Bool

/-- The commands that set each (R1, R14, R174, R198 to R200, R202). -/
def settings : Instr → Sets
  | .resetRelease .. => ⟨true, true, false, false⟩
  | .planBodyBeatDelivered _ => ⟨true, false, false, false⟩
  | .maskWord => ⟨false, false, true, false⟩
  | .acknowledgeWord | .statusWriteComplete | .restart => ⟨false, false, false, true⟩
  | .frameBusWriteComplete _ => ⟨false, false, true, true⟩
  | _ => ⟨false, false, false, false⟩

/-- From `s` to `t` nothing is set but what `x` says, and NOTICE only with the mask or the latched causes. -/
structure State.Frames (x : Sets) (s t : State) : Prop where
  plan : x.plan = false →
    t.loader.plan = s.loader.plan ∧ t.loader.generation = s.loader.generation ∧ t.part = s.part
  straps : x.straps = false → t.straps = s.straps
  mask : x.mask = false → t.notice.mask = s.notice.mask
  latched : x.latched = false → t.notice.latched = s.notice.latched
  line : x.mask = false → x.latched = false → t.notice.line = s.notice.line

namespace State.Frames

variable {x : Sets} {s t u : State}

/-- Of the fields most operations keep, the frame store and the fairness count alone have moved. -/
theorem of_kept {m : Memory} {f : Nat} (h : t.kept = { s.kept with mem := m, fairness := f }) : s.Frames x t where
  plan _ := ⟨congrArg Kept.plan h, congrArg Kept.generation h, congrArg Kept.part h⟩
  straps _ := congrArg Kept.straps h
  mask _ := congrArg Kept.mask h
  latched _ := congrArg Kept.latched h
  line _ _ := congrArg Kept.line h

theorem of_same (h : t.kept = s.kept) : s.Frames x t := of_kept (m := s.mem) (f := s.port.fairness) h

theorem trans (h : s.Frames x t) (h' : t.Frames x u) : s.Frames x u where
  plan hp := by
    obtain ⟨plan, generation, part⟩ := h.plan hp
    obtain ⟨plan', generation', part'⟩ := h'.plan hp
    exact ⟨plan'.trans plan, generation'.trans generation, part'.trans part⟩
  straps hs := (h'.straps hs).trans (h.straps hs)
  mask hm := (h'.mask hm).trans (h.mask hm)
  latched hl := (h'.latched hl).trans (h.latched hl)
  line hm hl := (h'.line hm hl).trans (h.line hm hl)

theorem then_kept (h : s.Frames x t) (hk : u.kept = t.kept) : s.Frames x u := h.trans (of_same hk)

end State.Frames

section Frames

variable {x : Sets} {s t : State}

/-! #### The operations that set something -/

theorem State.released_frames (hp : x.plan = true) (hs : x.straps = true) (bypass : Bool) (planSel memSize : BitVec 2) :
    s.Frames x (s.released bypass planSel memSize) :=
  ⟨fun h => absurd hp (by simp [h]), fun h => absurd hs (by simp [h]), fun _ => rfl, fun _ => rfl, fun _ _ => rfl⟩

theorem State.install_frames (hp : x.plan = true) (p : Plan) (g : Nat) : s.Frames x (s.install p g) := by
  rw [State.install_eq]
  exact ⟨fun h => absurd hp (by simp [h]), fun _ => rfl, fun _ => rfl, fun _ => rfl, fun _ _ => rfl⟩

theorem State.finishLoad_frames (hp : x.plan = true) (l : Load) : s.Frames x (s.finishLoad l) := by
  rw [State.finishLoad_eq]
  refine State.Frames.then_kept ?_ (State.recordOutcome_kept _ _ _ _)
  split
  · exact State.install_frames hp _ _
  · exact .of_same rfl

theorem State.planDelivered_frames (hp : x.plan = true) (k : Nat) (w : Word) (c : EccCondition) :
    s.Frames x (s.planDelivered k w c) := by
  cases hl : s.loader.load with
  | none =>
    rw [State.planDelivered, hl]
    exact .of_same rfl
  | some l =>
    rw [State.planDelivered_eq hl]
    split
    · exact State.finishLoad_frames hp _
    · exact .of_same rfl

theorem State.takeMask_frames (hm : x.mask = true) (v : BitVec 32) : s.Frames x (s.takeMask v) :=
  ⟨fun _ => ⟨rfl, rfl, rfl⟩, fun _ => rfl, fun h => absurd hm (by simp [h]), fun _ => rfl,
    fun h _ => absurd hm (by simp [h])⟩

/-- Only the latched causes and NOTICE with them change. -/
theorem State.onNotice_frames (hl : x.latched = true) {f : Notice → Notice} (hf : (f s.notice).mask = s.notice.mask) :
    s.Frames x (s.onNotice f) :=
  ⟨fun _ => ⟨rfl, rfl, rfl⟩, fun _ => rfl, fun _ => hf, fun h => absurd hl (by simp [h]),
    fun _ h => absurd hl (by simp [h])⟩

theorem State.takeAck_frames (hl : x.latched = true) (v : BitVec 32) : s.Frames x (s.takeAck v) := by
  unfold State.takeAck
  exact State.onNotice_frames hl rfl

theorem State.finishStatus_frames (hl : x.latched = true) (w : StatusWrite) : s.Frames x (s.finishStatus w) := by
  unfold State.finishStatus
  exact State.onNotice_frames hl rfl

theorem State.restartNotices_frames (hl : x.latched = true) : s.Frames x s.restartNotices := by
  unfold State.restartNotices
  dsimp only
  split
  · exact (State.onNotice_frames hl rfl).then_kept (State.raise_kept _ _)
  · exact State.onNotice_frames hl rfl

theorem State.takeRestart_frames (hl : x.latched = true) : s.Frames x s.takeRestart := by
  have taken : s.Frames x (s.keepInHand 0) := .of_same (s.keepInHand_kept 0)
  exact (taken.trans (State.restartNotices_frames hl)).then_kept (by simp [State.takeRestart])

/-! #### Completed writes -/

theorem State.landNth_frames {pick : Job → Bool} {n : Nat} {y : Access × State} (h : s.landNth pick n = some y) :
    s.Frames x y.2 := by
  obtain ⟨unit, hk⟩ := State.landNth_kept h
  exact .of_kept (f := s.port.fairness) hk

theorem State.landAll_frames (s : State) (pick : Job → Bool) (n : Nat) : s.Frames x (s.landAll pick n) := by
  induction n generalizing s with
  | zero => exact .of_same rfl
  | succ n ih =>
    simp only [State.landAll]
    split
    · exact .of_same rfl
    · next ht => exact (State.landNth_frames ht).trans (ih _)

/-- What a requester makes of a completed write. -/
theorem State.landNth_map_frames {pick : Job → Bool} {n : Nat} {f : Access × State → State}
    (hf : ∀ y : Access × State, (f y).kept = y.2.kept) : ∀ u ∈ (s.landNth pick n).map f, s.Frames x u :=
  Option.forall_mem_map.2 fun y hy => (State.landNth_frames hy).then_kept (hf y)

/-- A control word that may be set is taken. -/
def Sets.Allow (x : Sets) : ControlWord → Prop
  | .acknowledge => x.latched = true
  | .mask => x.mask = true
  | _ => True

theorem State.takeWord_frames {c : ControlWord} (hc : x.Allow c) (v : BitVec 32) : s.Frames x (s.takeWord c v) := by
  cases c with
  | request => exact .of_same (s.takeRequest_kept v)
  | post => exact .of_same (s.takePost_kept _)
  | acknowledge => exact State.takeAck_frames hc v
  | mask => exact State.takeMask_frames hc v

/-- A completed store sets at most what the word of its unit sets (R174). -/
theorem State.storeDone_frames {b : BusBeat} (hc : ∀ c, s.wordAt b.unit = some c → x.Allow c) :
    s.Frames x (s.storeDone b) := by
  have stored : s.Frames x (s.wordStored b) := by
    unfold State.wordStored
    split
    · exact .of_same rfl
    · split
      · exact .of_same rfl
      · next c hw =>
        split
        · exact State.takeWord_frames (hc c hw) _
        · exact .of_same (s.partWord_kept _)
        · exact .of_same rfl
  exact stored.then_kept (by simp [State.storeDone, ite_kept])

/-- Where the control words lie follows from the straps (R1). -/
theorem State.wordAt_congr (h : t.straps = s.straps) (u : Nat) : t.wordAt u = s.wordAt u := by
  have unit : t.wordUnit = s.wordUnit := by
    funext c
    rw [State.wordUnit, State.planBase, h]
    rfl
  rw [State.wordAt, unit]
  rfl

/-- A completed bus write sets at most what the words of the units written set. -/
theorem State.busWriteEvent_frames {pick : Job → Bool} {n : Nat}
    (hc : ∀ b r c, pick (.busWrite b r) = true → s.wordAt b.unit = some c → x.Allow c) :
    ∀ u ∈ s.busWriteEvent pick n, s.Frames x u := by
  unfold State.busWriteEvent
  split
  · simp
  · refine Option.forall_mem_map.2 fun y hy => ?_
    obtain ⟨a, t⟩ := y
    have landed : s.Frames x t := State.landNth_frames hy
    obtain ⟨unit, hk⟩ := State.landNth_kept hy
    have straps : t.straps = s.straps := congrArg Kept.straps hk
    obtain ⟨-, -, -, -, -, hp, -⟩ := State.landNth_some hy
    split
    · next b r hj =>
      have picked : pick (.busWrite b r) = true := by
        rw [← hj]
        exact (Bool.and_eq_true_iff.1 hp).2
      refine landed.trans (State.storeDone_frames fun c hw => hc b r c picked ?_)
      rwa [State.wordAt_congr straps] at hw
    · exact landed

/-- The write of one control word sets at most what that word sets. -/
theorem State.wordEvent_frames {c : ControlWord} (hc : x.Allow c) : ∀ u ∈ s.wordEvent c, s.Frames x u := by
  refine State.busWriteEvent_frames fun b r c' hp hw => ?_
  have unit : b.unit = s.wordUnit c := of_decide_eq_true hp
  rw [unit, State.wordAt_wordUnit] at hw
  exact Option.some.inj hw ▸ hc

/-! #### Events -/

theorem State.busReadEvent_frames (n : Nat) : ∀ u ∈ s.busReadEvent n, s.Frames x u := by
  intro u hu
  have before : s.Frames x (s.landBefore isBusRead n) :=
    .of_kept (f := s.port.fairness) (s.landBefore_kept isBusRead n).1
  refine before.then_kept (State.deliverNth_map_kept (fun y => ?_) u hu)
  split
  · simp
  · rfl

theorem State.writeBackEvent_frames (n : Nat) : ∀ u ∈ s.writeBackEvent n, s.Frames x u := by
  refine State.landNth_map_frames fun y => ?_
  split
  · simp
  · rfl

theorem State.replyEvent_frames : ∀ u ∈ s.replyEvent, s.Frames x u := by
  have landed : s.Frames x _ := (s.landAll_frames isReplyUnit s.port.inFlight.length).then_kept (State.replyDone_kept _)
  refine forall_mem_bind fun w => ?_
  split <;> simp [landed]

theorem State.statusEvent_frames (hl : x.latched = true) : ∀ u ∈ s.statusEvent, s.Frames x u := by
  have landed : s.Frames x _ := (s.landAll_frames isReportUnit (reportsBefore s.port.inFlight)).trans
    (State.landAll_frames _ isStatusUnit s.port.inFlight.length)
  refine forall_mem_bind fun w => ?_
  split
  · simpa using landed.trans (State.finishStatus_frames hl w)
  · simp

theorem State.planEvent_frames (hp : x.plan = true) (n : Nat) : ∀ u ∈ s.planEvent n, s.Frames x u := by
  refine Option.forall_mem_map.2 fun y hy => ?_
  have delivered : s.Frames x y.2.2.2 := .of_same (State.deliverNth_kept hy)
  split
  · exact (delivered.trans (State.planDelivered_frames hp _ _ _)).then_kept (State.settle_kept _)
  · exact delivered

theorem State.grantEvent_frames (y : Option Upset) : ∀ u ∈ s.grantEvent y, s.Frames x u := by
  intro u hu
  obtain ⟨a, -, hk⟩ := State.grantEvent_kept hu
  have upset : s.Frames x (s.applyUpset a.unit y) := .of_kept (f := s.port.fairness) (s.applyUpset_kept a.unit y)
  exact (upset.trans (.of_kept (State.granted_kept _ a))).then_kept hk

theorem State.happen_frames {y : Option State} (hy : ∀ u ∈ y, s.Frames x u) (ht : s.happen y = .next t) :
    s.Frames x t := State.of_happen (.of_same rfl) hy ht

end Frames

/-- Every command but RESET_ASSERT sets at most what `settings` says. -/
theorem exec_frames {c : Instr} {s t : State} (hc : c ≠ .resetAssert) (ht : exec c s = .next t) :
    s.Frames (settings c) t := by
  by_cases hk : movesKept c = false
  · exact .of_same (exec_kept hk ht)
  · cases c with
    | resetAssert => exact absurd rfl hc
    | resetRelease b p m =>
      obtain rfl := Host.Outcome.next.inj ht
      split
      · exact State.released_frames rfl rfl b p m
      · exact .of_same rfl
    | planBodyBeatDelivered n => exact State.happen_frames (State.planEvent_frames rfl n) ht
    | restart =>
      exact State.happen_frames (Option.forall_mem_map.2 fun _ _ => State.takeRestart_frames rfl) ht
    | portGrant y => exact State.happen_frames (State.grantEvent_frames y) ht
    | frameBusReadDelivered n => exact State.happen_frames (State.busReadEvent_frames n) ht
    | frameBusWriteComplete n =>
      refine State.happen_frames (State.busWriteEvent_frames fun b r c _ _ => ?_) ht
      cases c <;> trivial
    | requestWord => exact State.happen_frames (State.wordEvent_frames (c := .request) trivial) ht
    | postWord => exact State.happen_frames (State.wordEvent_frames (c := .post) trivial) ht
    | acknowledgeWord => exact State.happen_frames (State.wordEvent_frames (c := .acknowledge) rfl) ht
    | maskWord => exact State.happen_frames (State.wordEvent_frames (c := .mask) rfl) ht
    | writeBackComplete n => exact State.happen_frames (State.writeBackEvent_frames n) ht
    | clearWriteComplete n => exact State.happen_frames (State.landNth_map_frames fun y => by simp) ht
    | renderWriteComplete n => exact State.happen_frames (State.landNth_map_frames fun y => by simp) ht
    | replyWriteComplete => exact State.happen_frames State.replyEvent_frames ht
    | statusWriteComplete => exact State.happen_frames (State.statusEvent_frames rfl) ht
    | _ => exact absurd rfl hk

section Settings

variable {c : Instr}

theorem settings_plan (h : (settings c).plan = true) :
    (∃ w, c = .planBodyBeatDelivered w) ∨ ∃ b p m, c = .resetRelease b p m := by
  cases c with
  | planBodyBeatDelivered w => exact .inl ⟨w, rfl⟩
  | resetRelease b p m => exact .inr ⟨b, p, m, rfl⟩
  | _ => cases h

theorem settings_straps (h : (settings c).straps = true) : ∃ b p m, c = .resetRelease b p m := by
  cases c with
  | resetRelease b p m => exact ⟨b, p, m, rfl⟩
  | _ => cases h

theorem settings_mask (h : (settings c).mask = true) : (∃ w, c = .frameBusWriteComplete w) ∨ c = .maskWord := by
  cases c with
  | frameBusWriteComplete w => exact .inl ⟨w, rfl⟩
  | maskWord => exact .inr rfl
  | _ => cases h

theorem settings_latched (h : (settings c).latched = true) :
    (∃ w, c = .frameBusWriteComplete w) ∨ c = .acknowledgeWord ∨ c = .statusWriteComplete ∨ c = .restart := by
  cases c with
  | frameBusWriteComplete w => exact .inl ⟨w, rfl⟩
  | acknowledgeWord => exact .inr (.inl rfl)
  | statusWriteComplete => exact .inr (.inr (.inl rfl))
  | restart => exact .inr (.inr (.inr rfl))
  | _ => cases h

end Settings

/-- Settles O9: what each command can set (`settings`, `exec_frames`), read setting by setting. -/
theorem frameControl : Obligations.FrameControl := by
  intro c s t ht hreset
  have frames := exec_frames hreset ht
  refine ⟨fun hplan hrelease => frames.plan ?_, fun hrelease => frames.straps ?_, fun hwrite => ?_⟩
  · refine Bool.eq_false_iff.2 fun h => ?_
    rcases settings_plan h with ⟨w, rfl⟩ | ⟨b, p, m, rfl⟩
    · exact hplan w rfl
    · exact hrelease b p m rfl
  · refine Bool.eq_false_iff.2 fun h => ?_
    obtain ⟨b, p, m, rfl⟩ := settings_straps h
    exact hrelease b p m rfl
  · have mask (hm : c ≠ .maskWord) : (settings c).mask = false := by
      refine Bool.eq_false_iff.2 fun h => ?_
      rcases settings_mask h with ⟨w, rfl⟩ | rfl
      · exact hwrite w rfl
      · exact hm rfl
    have latched (ha : c ≠ .acknowledgeWord) (hs : c ≠ .statusWriteComplete) (hr : c ≠ .restart) :
        (settings c).latched = false := by
      refine Bool.eq_false_iff.2 fun h => ?_
      rcases settings_latched h with ⟨w, rfl⟩ | rfl | rfl | rfl
      · exact hwrite w rfl
      · exact ha rfl
      · exact hs rfl
      · exact hr rfl
    exact ⟨fun hm => frames.mask (mask hm), fun ha hs hr => frames.latched (latched ha hs hr),
      fun hm ha hs hr => frames.line (mask hm) (latched ha hs hr)⟩

end Sys2Proof.Machine

namespace Sys2Proof.Machine

/-! ### Entries dropped, flushes and discards (O32) -/

/-! #### What dropping entries leaves -/

section DropEntries

variable (s : State) (pick : Entry → Bool)

theorem State.dropEntries_unchanged {α : Type} {g : State → α} (h : ∀ (t : State) (i : Nat), g (t.dropEntry i) = g t) :
    g (s.dropEntries pick) = g s := by
  unfold State.dropEntries
  generalize (List.range s.merge.entries.length).filter (fun i => (s.entry i).any pick) = out
  induction out generalizing s with
  | nil => rfl
  | cons i out ih => exact (ih (s.dropEntry i)).trans (h s i)

@[simp] theorem State.dropEntries_bus : (s.dropEntries pick).bus = s.bus :=
  s.dropEntries_unchanged pick (g := State.bus) State.dropEntry_bus

@[simp] theorem State.dropEntries_capture : (s.dropEntries pick).capture = s.capture :=
  s.dropEntries_unchanged pick (g := State.capture) State.dropEntry_capture

@[simp] theorem State.dropEntries_fetch : (s.dropEntries pick).fetch = s.fetch :=
  s.dropEntries_unchanged pick (g := State.fetch) State.dropEntry_fetch

@[simp] theorem State.dropEntries_pipe : (s.dropEntries pick).pipe = s.pipe :=
  s.dropEntries_unchanged pick (g := State.pipe) State.dropEntry_pipe

@[simp] theorem State.dropEntries_expo : (s.dropEntries pick).expo = s.expo :=
  s.dropEntries_unchanged pick (g := State.expo) State.dropEntry_expo

@[simp] theorem State.dropEntries_prod : (s.dropEntries pick).prod = s.prod :=
  s.dropEntries_unchanged pick (g := State.prod) State.dropEntry_prod

@[simp] theorem State.dropEntries_loader : (s.dropEntries pick).loader = s.loader :=
  s.dropEntries_unchanged pick (g := State.loader) State.dropEntry_loader

@[simp] theorem State.dropEntries_inFlight : (s.dropEntries pick).port.inFlight = s.port.inFlight :=
  s.dropEntries_unchanged pick (g := fun t => t.port.inFlight) fun _ _ => rfl

/-- A flush keeps its place when entries are dropped (R103). -/
theorem State.dropEntries_flushes_nil (h : s.merge.flushes = []) : (s.dropEntries pick).merge.flushes = [] := by
  have kept : (s.dropEntries pick).merge.flushes.length = s.merge.flushes.length :=
    s.dropEntries_unchanged pick (g := fun t => t.merge.flushes.length) fun _ _ => List.length_map ..
  rwa [h, List.length_nil, List.length_eq_zero_iff] at kept

theorem State.entry_dropEntries (j : Nat) :
    (s.dropEntries pick).entry j = if (s.entry j).any pick then none else s.entry j := by
  simp only [State.dropEntries, State.entry_foldl_dropEntry, State.mem_picked_iff]

/-- What stands after entries were dropped was there and was not picked. -/
theorem State.entry_dropEntries_eq_some {j : Nat} {e : Entry} :
    (s.dropEntries pick).entry j = some e ↔ s.entry j = some e ∧ pick e = false := by
  rw [State.entry_dropEntries]
  constructor
  · intro h
    split at h
    · cases h
    · next hn =>
      refine ⟨h, ?_⟩
      rw [h] at hn
      simpa using hn
  · rintro ⟨he, hp⟩
    rw [he]
    simp [hp]

variable {s pick} in
/-- Only what is picked of the entries that stand matters. -/
theorem State.dropEntries_congr {pick' : Entry → Bool} (h : ∀ i e, s.entry i = some e → pick e = pick' e) :
    s.dropEntries pick = s.dropEntries pick' := by
  have picked (i : Nat) : (s.entry i).any pick = (s.entry i).any pick' := by
    cases he : s.entry i with
    | none => rfl
    | some e => exact h i e he
  simp only [State.dropEntries, picked]

end DropEntries

/-! #### A still part stays still -/

section Product

variable {s : State} {p : Nat}

theorem State.product_setProduct_same (hp : p < s.prod.products.length) (v : Product) :
    (s.setProduct p v).product p = v := by
  simp [State.product, State.setProduct, State.onProd, hp]

theorem State.product_setProduct_other {q : Nat} (h : q ≠ p) (v : Product) :
    (s.setProduct p v).product q = s.product q := by
  simp [State.product, State.setProduct, State.onProd, List.getD_eq_getElem?_getD, List.getElem?_set_ne h.symm]

/-- A product past the table is EMPTY. -/
theorem State.product_lt (h : (s.product p).state ≠ .empty) : p < s.prod.products.length := by
  by_contra hn
  rw [State.product, List.getD_eq_default _ _ (Nat.le_of_not_lt hn)] at h
  exact h rfl

theorem State.setProduct_mark {v : Product} (hv : v.mark ≠ .discarding) {q : Nat} (h : (s.product q).mark ≠ .discarding) :
    ((s.setProduct p v).product q).mark ≠ .discarding := by
  by_cases hq : q = p
  · subst hq
    rcases Nat.lt_or_ge q s.prod.products.length with hlt | hge
    · rwa [State.product_setProduct_same hlt]
    · have unset : s.setProduct q v = s := by
        rw [State.setProduct, State.onProd, List.set_eq_of_length_le hge]
      rwa [unset]
  · rwa [State.product_setProduct_other hq]

end Product

@[simp] theorem State.reply_heldCells (s : State) (o : ReplyOutcome) (d : Detail) :
    (s.reply o d).bus.heldCells = s.bus.heldCells := by
  unfold State.reply
  split <;> rfl

@[simp] theorem State.reply_restart (s : State) (o : ReplyOutcome) (d : Detail) :
    (s.reply o d).bus.restart = s.bus.restart := by
  unfold State.reply
  split <;> rfl

@[simp] theorem State.reply_lockWaiters (s : State) (o : ReplyOutcome) (d : Detail) :
    (s.reply o d).bus.lockWaiters = s.bus.lockWaiters := by
  unfold State.reply
  split <;> rfl

@[simp] theorem State.reply_stalled (s : State) (o : ReplyOutcome) (d : Detail) :
    (s.reply o d).bus.stalled = s.bus.stalled := by
  unfold State.reply
  split <;> rfl

namespace State.Still

variable {s : State}

theorem keepInHand (h : s.Still) (taken : Nat) : (s.keepInHand taken).Still := { h with }

theorem setProduct (h : s.Still) (p : Nat) {v : Product} (hv : v.mark ≠ .discarding) : (s.setProduct p v).Still where
  heldCells := h.heldCells
  flushes := h.flushes
  restart := h.restart
  undiscarded q hq := State.setProduct_mark hv (h.undiscarded q hq)
  pixel := h.pixel
  fills := h.fills

theorem dropEntries (h : s.Still) (pick : Entry → Bool) : (s.dropEntries pick).Still where
  heldCells := by rw [s.dropEntries_bus, h.heldCells]
  flushes := s.dropEntries_flushes_nil pick h.flushes
  restart := by rw [s.dropEntries_bus, h.restart]
  undiscarded p hp := by
    rw [State.product, s.dropEntries_prod]
    exact h.undiscarded p hp
  pixel px w hw := by
    rw [State.waitingPixel, s.dropEntries_pipe] at hw
    exact h.pixel px w hw
  fills i e he := h.fills i e ((s.entry_dropEntries_eq_some pick).1 he).1

theorem reply (h : s.Still) (o : ReplyOutcome) (d : Detail) : (s.reply o d).Still where
  heldCells := by rw [s.reply_heldCells, h.heldCells]
  flushes := by rw [s.reply_merge, h.flushes]
  restart := by rw [s.reply_restart, h.restart]
  undiscarded p hp := by
    rw [State.product, s.reply_prod]
    exact h.undiscarded p hp
  pixel px w hw := by
    rw [State.waitingPixel, s.reply_pipe] at hw
    exact h.pixel px w hw
  fills i e he := by
    rw [State.entry, s.reply_merge] at he
    exact h.fills i e he

end State.Still

/-! #### The settling of a part that only a flush or a discard keeps from being still -/

section Settling

variable {s t : State}

theorem State.cellsAdvance_none (h : s.bus.heldCells = []) : s.cellsAdvance = s := by
  rw [State.cellsAdvance, h]
  exact State.onBus_eq_self (congrArg (fun x => { s.bus with heldCells := x }) h.symm)

/-- What a flush or a discard that completes leaves is still: nothing more follows. -/
theorem State.settle_to (hcells : s.bus.heldCells = []) (hdone : s.flushAdvance.discardAdvance = t) (ht : t.Still)
    (hwaiters : t.bus.lockWaiters = []) (hstalled : t.bus.stalled = []) : s.settle = t := by
  have merged : s.mergeSettle = t := by
    rw [State.mergeSettle, State.cellsAdvance_none hcells, hdone, ht.pixelRetry, ht.flushAdvance, ht.restartAdvance]
  rw [State.settle, merged]
  exact State.retake_idle hwaiters hstalled _

theorem State.foldl_discardStep_idle {l : List Nat} (h : ∀ p ∈ l, s.discardStep p = s) :
    l.foldl State.discardStep s = s := by
  induction l with
  | nil => rfl
  | cons p l ih => rw [List.foldl_cons, h p List.mem_cons_self, ih fun q hq => h q (List.mem_cons_of_mem _ hq)]

/-- The one product whose discard can go on. -/
theorem State.foldl_discardStep {p : Nat} {l : List Nat} (hp : p ∈ l) (hothers : ∀ q ∈ l, q ≠ p → s.discardStep q = s)
    (hstep : s.discardStep p = t) (hafter : ∀ q ∈ l, t.discardStep q = t) : l.foldl State.discardStep s = t := by
  induction l with
  | nil => cases hp
  | cons q l ih =>
    have rest : l.foldl State.discardStep t = t :=
      State.foldl_discardStep_idle fun x hx => hafter x (List.mem_cons_of_mem _ hx)
    rw [List.foldl_cons]
    by_cases hq : q = p
    · rw [hq, hstep, rest]
    · rw [hothers q List.mem_cons_self hq]
      exact ih ((List.mem_cons.1 hp).resolve_left (Ne.symm hq)) (fun x hx => hothers x (List.mem_cons_of_mem _ hx))
        fun x hx => hafter x (List.mem_cons_of_mem _ hx)

theorem State.discardStep_unmarked {p : Nat} (h : (s.product p).mark ≠ .discarding) : s.discardStep p = s := if_neg h

end Settling

/-! #### Flushes (R103 to R105) -/

/-- Some entry of the flush's set is not yet settled. -/
def Flush.Waits (f : Flush) : Prop := ∃ x ∈ f.members, x.settled = false

theorem Flush.complete_iff {f : Flush} : f.complete = true ↔ ¬f.Waits := by
  simp [Flush.complete, Flush.Waits]

theorem Flush.complete_eq_false {f : Flush} (h : f.Waits) : f.complete = false := by
  rw [Bool.eq_false_iff, ne_eq, Flush.complete_iff]
  exact not_not.2 h

/-- A flush starts with the DIRTY entries, and the WRITING ones as waiting for the write granted (R103). -/
theorem State.mem_flushSet {s : State} {pick : Nat → Bool} {x : FlushMember} : x ∈ s.flushSet pick ↔
    x.settled = false ∧ ∃ e, s.entry x.entry = some e ∧ pick e.product = true ∧
      ((e.state = .dirty ∧ x.granted = false) ∨ (e.state = .writing ∧ x.granted = true)) := by
  obtain ⟨i, granted, settled⟩ := x
  rw [State.flushSet, List.mem_filterMap]
  constructor
  · rintro ⟨j, -, h⟩
    split at h
    · next e he =>
      split at h
      · next hp =>
        split at h
        · next hs =>
          cases h
          exact ⟨rfl, e, he, hp, .inl ⟨hs, rfl⟩⟩
        · next hs =>
          cases h
          exact ⟨rfl, e, he, hp, .inr ⟨hs, rfl⟩⟩
        · cases h
        · cases h
      · cases h
    · cases h
  · rintro ⟨hsettled, e, he, hp, hstate⟩
    refine ⟨i, List.mem_range.2 (State.entry_lt he), ?_⟩
    have unsettled : settled = false := hsettled
    have there : s.entry i = some e := he
    rcases hstate with ⟨hs, hg⟩ | ⟨hs, hg⟩
    · have ungranted : granted = false := hg
      simp [there, hp, hs, unsettled, ungranted]
    · have waits : granted = true := hg
      simp [there, hp, hs, unsettled, waits]

section FlushAdvance

variable {s : State}

theorem State.flushAdvance_waits (h : ∀ f ∈ s.merge.flushes, f.Waits) : s.flushAdvance = s := by
  have none_done : (s.merge.flushes.filter fun f => f.complete) = [] :=
    List.filter_eq_nil_iff.2 fun f hf => by simp [Flush.complete_eq_false (h f hf)]
  have all_kept : (s.merge.flushes.filter fun f => !f.complete) = s.merge.flushes :=
    List.filter_eq_self.2 fun f hf => by simp [Flush.complete_eq_false (h f hf)]
  rw [State.flushAdvance, none_done]
  exact State.onMerge_eq_self (congrArg (fun x => { s.merge with flushes := x }) all_kept)

/-- One flush alone completes. -/
theorem State.flushAdvance_one {l1 l2 : List Flush} {f : Flush} (hs : s.merge.flushes = l1 ++ f :: l2) (hf : ¬f.Waits)
    (hl : ∀ g ∈ l1 ++ l2, g.Waits) : s.flushAdvance = (s.onMerge fun m => { m with flushes := l1 ++ l2 }).flushDone f := by
  have done : f.complete = true := Flush.complete_iff.2 hf
  have waits {l : List Flush} (h : ∀ g ∈ l, g.Waits) : (l.filter fun g => g.complete) = [] :=
    List.filter_eq_nil_iff.2 fun g hg => by simp [Flush.complete_eq_false (h g hg)]
  have stays {l : List Flush} (h : ∀ g ∈ l, g.Waits) : (l.filter fun g => !g.complete) = l :=
    List.filter_eq_self.2 fun g hg => by simp [Flush.complete_eq_false (h g hg)]
  have h1 : ∀ g ∈ l1, g.Waits := fun g hg => hl g (List.mem_append_left _ hg)
  have h2 : ∀ g ∈ l2, g.Waits := fun g hg => hl g (List.mem_append_right _ hg)
  have leaving : (s.merge.flushes.filter fun f => f.complete) = [f] := by
    rw [hs, List.filter_append, waits h1, List.filter_cons_of_pos (by simpa using done), waits h2, List.nil_append]
  have left : (s.merge.flushes.filter fun f => !f.complete) = l1 ++ l2 := by
    rw [hs, List.filter_append, stays h1, List.filter_cons_of_neg (by simp [done]), stays h2]
  have merged : (s.onMerge fun m => { m with flushes := m.flushes.filter fun f => !f.complete }) =
      s.onMerge fun m => { m with flushes := l1 ++ l2 } :=
    congrArg (fun x => { s with merge := { s.merge with flushes := x } }) left
  rw [State.flushAdvance, leaving, merged]
  rfl

theorem State.flushDone_drain {f : Flush} {bank : Nat} {r : ExposureRecord} (hf : f.asker = .drain bank)
    (hr : s.recordOf bank = some r) : s.flushDone f = s.reportDue ⟨r.number, .ended bank⟩ := by
  simp only [State.flushDone, hf, hr]

theorem State.flushDone_freeze {f : Flush} {p : Nat} (hf : f.asker = .freeze p) : s.flushDone f =
    ((s.dropEntries fun e => decide (e.product = p)).setProduct p ⟨.frozen, .none⟩).reply .done
      ⟨.product, p, 0, s.keptCode, 0⟩ := by
  simp only [State.flushDone, hf]
  rfl

/-- The report that a completed flush makes due: that of its exposure when a drain asked for it (R104). -/
def State.flushReport (s : State) (f : Flush) : Option ReportDue :=
  match f.asker with
  | .drain bank => (s.recordOf bank).map fun r => ⟨r.number, .ended bank⟩
  | _ => none

/-- Drains whose flushes are complete have their reports due in turn (log 42). -/
theorem State.foldl_flushDone_drains {l : List Flush} (h : ∀ f ∈ l, ∃ bank, f.asker = .drain bank) (t : State)
    (ht : t.expo.records = s.expo.records) :
    l.foldl State.flushDone t = t.onExpo fun x => { x with due := x.due ++ l.filterMap s.flushReport } := by
  induction l generalizing t with
  | nil =>
    rw [List.filterMap_nil]
    simp only [List.append_nil]
    rfl
  | cons f l ih =>
    obtain ⟨bank, hf⟩ := h f List.mem_cons_self
    have later := ih fun g hg => h g (List.mem_cons_of_mem _ hg)
    have same : t.recordOf bank = s.recordOf bank := by rw [State.recordOf, ht]; rfl
    rw [List.foldl_cons]
    cases hr : s.recordOf bank with
    | none =>
      have nothing : t.flushDone f = t := by simp only [State.flushDone, hf, same, hr]
      have unreported : s.flushReport f = none := by simp [State.flushReport, hf, hr]
      rw [nothing, later t ht, List.filterMap_cons_none unreported]
    | some r =>
      have reported : s.flushReport f = some ⟨r.number, .ended bank⟩ := by simp [State.flushReport, hf, hr]
      rw [State.flushDone_drain hf (same.trans hr), later (t.reportDue _) ht, List.filterMap_cons_some reported]
      simp only [State.reportDue, State.onExpo, List.append_assoc, List.singleton_append]

theorem State.flushAdvance_drains (h : ∀ f ∈ s.merge.flushes, ¬f.Waits → ∃ bank, f.asker = .drain bank) :
    s.flushAdvance = (s.onMerge fun m => { m with flushes := m.flushes.filter fun f => !f.complete }).onExpo fun x =>
      { x with due := x.due ++ (s.merge.flushes.filter fun f => f.complete).filterMap s.flushReport } := by
  refine State.foldl_flushDone_drains (s := s) (fun f hf => ?_) _ rfl
  obtain ⟨there, done⟩ := List.mem_filter.1 hf
  exact h f there (Flush.complete_iff.1 done)

end FlushAdvance

end Sys2Proof.Machine

namespace Sys2Proof.Machine

/-! ### FREEZE_PRODUCT and DISCARD_PRODUCT (O32) -/

theorem State.exec_freezeProduct {s : State} {r : RequestRecord} (h : s.Dispatched 3 r) :
    exec .freezeProduct s = .next (s.takeFreeze r).settle := by
  change s.happen ((s.dispatched 3).map fun r => (s.takeFreeze r).settle) = _
  simp [State.happen, h.running, h.hand]

theorem State.exec_discardProduct {s : State} {r : RequestRecord} (h : s.Dispatched 6 r)
    (he : s.engineRuns = false ∨ s.prod.engine.product ≠ r.product ∨ s.jobEnding = false) :
    exec .discardProduct s = .next (s.takeDiscard r).settle := by
  have takes : ¬(s.jobEnding = true ∧ s.prod.engine.product = r.product) := by
    rintro ⟨ending, named⟩
    rcases he with he | he | he
    · simp [State.jobEnding, he] at ending
    · exact he named
    · simp [he] at ending
  change s.happen ((s.dispatched 6).bind fun r =>
    if s.jobEnding ∧ s.prod.engine.product = r.product then none else some (s.takeDiscard r).settle) = _
  simp [State.happen, h.running, h.hand, takes]

/-- A request kept in hand keeps the state code it was taken with (R143). -/
theorem State.Dispatched.keptCode {s : State} {kind : Nat} {r : RequestRecord} (h : s.Dispatched kind r) (taken : Nat) :
    (s.keepInHand taken).keptCode = taken := by
  have hand := h.hand
  unfold State.dispatched at hand
  split at hand
  · next q hq => simp [State.keptCode, State.keepInHand, State.onBus, hq]
  · cases hand

section TakeFreeze

variable {s : State} {r : RequestRecord}

theorem State.takeFreeze_unplanned (h : s.part ≠ .planned) :
    s.takeFreeze r = s.reply .noPlan (s.takenDetail r.product 0) := if_pos h

variable (hp : s.part = .planned)
include hp

theorem State.takeFreeze_beyond (h : 4 ≤ r.product) :
    s.takeFreeze r = s.reply .badArgument (s.takenDetail r.product 0) :=
  (if_neg (not_not.2 hp)).trans (if_pos h)

/-- Of a product that exists, FREEZE_PRODUCT goes by its state and the exposures (R145). -/
theorem State.takeFreeze_existing (h : r.product < 4) : s.takeFreeze r =
    if (s.product r.product).state ≠ .opened then s.reply .badState (s.takenDetail r.product 0)
    else if s.targeted r.product then s.reply .busy (s.takenDetail r.product 0)
    else ((s.keepInHand (s.takenCode r.product)).setProduct r.product ⟨.opened, .freezing⟩).beginFlush
      (.freeze r.product) fun x => decide (x = r.product) :=
  (if_neg (not_not.2 hp)).trans (if_neg (Nat.not_le.2 h))

end TakeFreeze

section TakeDiscard

variable {s : State} {r : RequestRecord}

theorem State.takeDiscard_unplanned (h : s.part ≠ .planned) :
    s.takeDiscard r = s.reply .noPlan (s.takenDetail r.product 0) := if_pos h

variable (hp : s.part = .planned)
include hp

theorem State.takeDiscard_beyond (h : 4 ≤ r.product) :
    s.takeDiscard r = s.reply .badArgument (s.takenDetail r.product 0) :=
  (if_neg (not_not.2 hp)).trans (if_pos h)

variable (h : r.product < 4)
include h

theorem State.takeDiscard_targeted (ht : s.targeted r.product = true) :
    s.takeDiscard r = s.reply .busy (s.takenDetail r.product 0) :=
  (if_neg (not_not.2 hp)).trans ((if_neg (Nat.not_le.2 h)).trans (if_pos ht))

/-- Of a product no exposure names, DISCARD_PRODUCT goes by its state (R149). -/
theorem State.takeDiscard_state (ht : s.targeted r.product = false) : s.takeDiscard r =
    match (s.product r.product).state with
    | .empty => s.reply .done (s.takenDetail r.product 0)
    | .opened => (s.keepInHand (s.takenCode r.product)).setProduct r.product ⟨.opened, .discarding⟩
    | .frozen => (s.setProduct r.product ⟨.empty, .none⟩).reply .done (s.takenDetail r.product 0)
    | .clearing | .rendering => (s.keepInHand (s.takenCode r.product)).halt .discard := by
  have untargeted : ¬s.targeted r.product = true := by simp [ht]
  rw [State.takeDiscard, if_neg (not_not.2 hp), if_neg (Nat.not_le.2 h), if_neg untargeted]
  cases (s.product r.product).state <;> rfl

/-- The job of a product that is CLEARING or RENDERING is halted (R158). -/
theorem State.takeDiscard_halts (ht : s.targeted r.product = false)
    (hs : (s.product r.product).state = .clearing ∨ (s.product r.product).state = .rendering) :
    s.takeDiscard r = (s.keepInHand (s.takenCode r.product)).halt .discard := by
  rw [State.takeDiscard_state hp h ht]
  rcases hs with hs | hs
  · rw [hs]
  · rw [hs]

end TakeDiscard

/-! #### A freeze and a discard that complete at once (R105, R106) -/

section Completes

variable {s : State} {p : Nat}

/-- With no DIRTY or WRITING entry of the product the flush is complete as it starts. -/
theorem State.flushSet_none (h : ∀ i e, s.entry i = some e → e.product = p → e.state ≠ .dirty ∧ e.state ≠ .writing) :
    s.flushSet (fun x => decide (x = p)) = [] := by
  refine List.eq_nil_iff_forall_not_mem.2 fun x hx => ?_
  obtain ⟨-, e, he, hprod, hstate⟩ := State.mem_flushSet.1 hx
  obtain ⟨undirty, unwriting⟩ := h _ e he (of_decide_eq_true hprod)
  exact hstate.elim (fun hd => undirty hd.1) fun hw => unwriting hw.1

/-- A freeze of a still part that has nothing to write completes within its step. -/
theorem State.settle_freeze (hs : s.Still) (hwaiters : s.bus.lockWaiters = []) (hstalled : s.bus.stalled = [])
    (h : ∀ i e, s.entry i = some e → e.product = p → e.state ≠ .dirty ∧ e.state ≠ .writing) :
    (s.beginFlush (.freeze p) fun x => decide (x = p)).settle =
      ((s.dropEntries fun e => decide (e.product = p)).setProduct p ⟨.frozen, .none⟩).reply .done
        ⟨.product, p, 0, s.keptCode, 0⟩ := by
  let begun : State := s.beginFlush (.freeze p) fun x => decide (x = p)
  have flushes_eq : begun.merge.flushes = [] ++ ⟨.freeze p, []⟩ :: [] := by
    change s.merge.flushes ++ [⟨.freeze p, s.flushSet fun x => decide (x = p)⟩] = _
    rw [hs.flushes, State.flushSet_none h]
  have flushed : (begun.onMerge fun m => { m with flushes := [] ++ [] }) = s :=
    congrArg (fun x => { s with merge := { s.merge with flushes := x } }) hs.flushes.symm
  have advanced : begun.flushAdvance = _ := State.flushAdvance_one flushes_eq (by simp [Flush.Waits]) (by simp)
  rw [flushed, State.flushDone_freeze rfl] at advanced
  have still := ((hs.dropEntries fun e => decide (e.product = p)).setProduct p
    (v := ⟨.frozen, .none⟩) (by decide)).reply .done ⟨.product, p, 0, s.keptCode, 0⟩
  refine State.settle_to hs.heldCells ?_ still (by simpa using hwaiters) (by simpa using hstalled)
  rw [← still.discardAdvance]
  exact congrArg State.discardAdvance advanced

/-- The entry of a product that discards waits for its granted write. -/
def Entry.stays (e : Entry) : Prop := e.state = .writing ∨ e.writeOutstanding = true

theorem droppable_iff {e : Entry} : droppable p e = true ↔ e.product = p ∧ ¬e.stays := by
  simp [droppable, Entry.stays, and_assoc]

section DiscardStep

variable (hm : (s.product p).mark = .discarding)
include hm

/-- A discard drops what it can and waits for the rest (R106). -/
theorem State.discardStep_waits (h : ∃ i e, s.entry i = some e ∧ e.product = p ∧ e.stays) :
    s.discardStep p = s.dropEntries (droppable p) := by
  obtain ⟨i, e, he, hprod, hstays⟩ := h
  have undropped : droppable p e = false := by
    rw [Bool.eq_false_iff, ne_eq, droppable_iff]
    exact fun hd => hd.2 hstays
  have there : (s.dropEntries (droppable p)).entry i = some e := (s.entry_dropEntries_eq_some _).2 ⟨he, undropped⟩
  have any_left : ((s.dropEntries (droppable p)).merge.entries.any fun e => e.any fun x => decide (x.product = p)) = true :=
    List.any_eq_true.2 ⟨some e, State.mem_entries there, by simp [hprod]⟩
  rw [State.discardStep, if_pos hm]
  exact if_pos any_left

theorem State.discardStep_done (h : ∀ i e, s.entry i = some e → e.product = p → ¬e.stays) :
    s.discardStep p = ((s.dropEntries (droppable p)).setProduct p ⟨.empty, .none⟩).reply .done
      ⟨.product, p, 0, s.keptCode, 0⟩ := by
  have none_left : ¬((s.dropEntries (droppable p)).merge.entries.any fun e => e.any fun x => decide (x.product = p)) = true := by
    simp only [List.any_eq_true, not_exists, not_and]
    intro o ho ha
    obtain ⟨e, rfl, hprod⟩ := (Option.any_eq_true _ _).1 ha
    obtain ⟨i, hi, hio⟩ := List.getElem_of_mem ho
    have there : (s.dropEntries (droppable p)).entry i = some e := by
      rw [State.entry, List.getD_eq_getElem _ _ hi, hio]
    obtain ⟨he, undropped⟩ := (s.entry_dropEntries_eq_some _).1 there
    have drops : droppable p e = true := droppable_iff.2 ⟨of_decide_eq_true hprod, h i e he (of_decide_eq_true hprod)⟩
    rw [drops] at undropped
    cases undropped
  have code : (s.dropEntries (droppable p)).keptCode = s.keptCode := State.keptCode_congr (s.dropEntries_bus _)
  rw [State.discardStep, if_pos hm]
  refine (if_neg none_left).trans ?_
  rw [code]
  rfl

end DiscardStep

/-- A discard of an OPEN product with no granted write outstanding completes within its step. -/
theorem State.settle_discard (hs : s.Still) (hwaiters : s.bus.lockWaiters = []) (hstalled : s.bus.stalled = [])
    (hp : p < 4) (hlt : p < s.prod.products.length)
    (h : ∀ i e, s.entry i = some e → e.product = p → ¬e.stays) :
    (s.setProduct p ⟨.opened, .discarding⟩).settle =
      (((s.setProduct p ⟨.opened, .discarding⟩).dropEntries fun e => decide (e.product = p)).setProduct p
        ⟨.empty, .none⟩).reply .done ⟨.product, p, 0, s.keptCode, 0⟩ := by
  let begun : State := s.setProduct p ⟨.opened, .discarding⟩
  let dropped : State := begun.dropEntries fun e => decide (e.product = p)
  have mark : (begun.product p).mark = .discarding := by rw [State.product_setProduct_same hlt]
  have step : begun.discardStep p = (dropped.setProduct p ⟨.empty, .none⟩).reply .done ⟨.product, p, 0, s.keptCode, 0⟩ := by
    rw [State.discardStep_done mark h]
    have same : begun.dropEntries (droppable p) = dropped := by
      refine State.dropEntries_congr fun i e he => Bool.eq_iff_iff.2 ?_
      rw [droppable_iff, decide_eq_true_iff]
      exact and_iff_left_of_imp (h i e he)
    rw [same]
    rfl
  have others {q : Nat} (hq : q < 4) (hne : q ≠ p) : (begun.product q).mark ≠ .discarding := by
    rw [State.product_setProduct_other hne]
    exact hs.undiscarded q hq
  have after : (dropped.setProduct p ⟨.empty, .none⟩).Still := {
    heldCells := (congrArg BusFront.heldCells (begun.dropEntries_bus _)).trans hs.heldCells
    flushes := begun.dropEntries_flushes_nil _ hs.flushes
    restart := (congrArg BusFront.restart (begun.dropEntries_bus _)).trans hs.restart
    undiscarded := fun q hq => by
      have prod_eq : dropped.prod = begun.prod := begun.dropEntries_prod _
      by_cases hne : q = p
      · have inside : p < dropped.prod.products.length := by
          rw [prod_eq]
          exact (List.length_set ..).trans_gt hlt
        rw [hne, State.product_setProduct_same inside]
        decide
      · rw [State.product_setProduct_other hne, State.product, prod_eq]
        exact others hq hne
    pixel := fun px w hw => by
      rw [State.waitingPixel, State.setProduct_pipe, begun.dropEntries_pipe] at hw
      exact hs.pixel px w hw
    fills := fun i e he => hs.fills i e ((begun.entry_dropEntries_eq_some _).1 he).1 }
  have still := after.reply .done ⟨.product, p, 0, s.keptCode, 0⟩
  have advanced : begun.flushAdvance = begun := State.flushAdvance_waits (s := begun) (by
    change ∀ f ∈ s.merge.flushes, _
    simp [hs.flushes])
  refine State.settle_to hs.heldCells ?_ still (by simpa [dropped, begun] using hwaiters)
    (by simpa [dropped, begun] using hstalled)
  rw [advanced]
  exact State.foldl_discardStep (List.mem_range.2 hp)
    (fun q hq hne => State.discardStep_unmarked (others (List.mem_range.1 hq) hne)) step
    fun q hq => State.discardStep_unmarked (still.undiscarded q (List.mem_range.1 hq))

/-! #### A discard that halts the product's job (R158) -/

/-- The halting job, its ask not granted withdrawn. -/
def State.halting (s : State) (cause : HaltCause) : State :=
  (s.withdraw isEngineJob).onEngine fun x => { x with halting := some cause, values := [] }

theorem State.halt_eq (s : State) (cause : HaltCause) : s.halt cause = (s.halting cause).engineCheck := rfl

theorem State.halting_busy {cause : HaltCause} : (s.halting cause).EngineBusy ↔ s.flying isEngineJob = true := by
  have unasked : (s.halting cause).asking isEngineJob = false := State.withdraw_asking s isEngineJob
  exact or_iff_right (by simp [unasked])

theorem State.halt_flying {cause : HaltCause} (h : s.flying isEngineJob = true) : s.halt cause = s.halting cause := by
  rw [State.halt_eq, State.engineCheck_busy (State.halting_busy.2 h)]

/-- With no granted access left the halt is complete at once. -/
theorem State.halt_idle {cause : HaltCause} {k : JobKind} (hk : s.prod.engine.kind = some k)
    (h : s.flying isEngineJob = false) : s.halt cause =
      (s.halting cause).haltDone cause { s.prod.engine with halting := some cause, values := [] } k.left s.keptCode := by
  rw [State.halt_eq, State.engineCheck_halted (s := s.halting cause) rfl hk rfl (by simp [State.halting_busy, h])]
  rfl

end Completes

/-- Settles O32: the requests by their checks in order, a freeze and a discard that complete at once by
`State.settle_freeze` and `State.settle_discard`, a discard that halts the job by `State.halt_flying` and
`State.halt_idle`; then a flush's set and its completion (`State.mem_flushSet`, `State.flushAdvance_one`), and a
discard's step (`State.discardStep_waits`, `State.discardStep_done`). -/
theorem freezeDiscardTaken : Obligations.FreezeDiscardTaken := by
  refine ⟨?_, ?_, ?_, ?_⟩
  · intro s r p code detail targeted kept
    have taken (hlt : p < 4) : s.takenCode r.product = code := if_pos hlt
    have code_eq (hlt : p < 4) : detail = ⟨.product, p, 0, code, 0⟩ := by
      change productDetail p (s.takenCode r.product) 0 = _
      rw [taken hlt]
      rfl
    refine ⟨fun hp hj => ⟨fun hd => ?_, fun hd => ?_, fun hd => ?_, fun hd => ?_, fun hd => ?_⟩, fun hp hd => ?_,
      fun hp hd he => ?_⟩
    · rw [State.exec_freezeProduct hd, State.takeFreeze_unplanned hp]
      rfl
    · rw [State.exec_thawProduct hd]
      exact congrArg Host.Outcome.next (if_pos hp)
    · rw [State.exec_renderProduct hd]
      exact congrArg Host.Outcome.next (if_pos hp)
    · rw [State.exec_discardProduct hd (.inr (.inr hj)), State.takeDiscard_unplanned hp]
      rfl
    · rw [State.exec_haltJob hd hj]
      exact congrArg Host.Outcome.next (if_pos hp)
    · intro freezing
      rw [State.exec_freezeProduct hd]
      refine ⟨fun h => ?_, fun h hs => ?_, fun h hs ht => ?_, fun h hs ht => ?_⟩
      · rw [State.takeFreeze_beyond hp h]
        rfl
      · rw [State.takeFreeze_existing hp h, if_pos hs]
        rfl
      · have named : s.targeted r.product = true := ht
        rw [State.takeFreeze_existing hp h, if_neg (not_not.2 hs), if_pos named]
        rfl
      · have untargeted : ¬s.targeted r.product = true := by
          change ¬targeted = true
          simp [ht]
        have begins : s.takeFreeze r = freezing.beginFlush (.freeze p) fun x => decide (x = p) := by
          rw [State.takeFreeze_existing hp h, if_neg (not_not.2 hs), if_neg untargeted, taken h]
        rw [begins]
        refine ⟨rfl, fun hq hn => ?_⟩
        obtain ⟨still, hwaiters, hstalled⟩ := State.still_of_quiet hq
        have freezing_still : freezing.Still := (still.keepInHand code).setProduct p (by decide)
        have kept_code : freezing.keptCode = code := hd.keptCode code
        rw [State.settle_freeze freezing_still hwaiters hstalled hn, kept_code, code_eq h]
    · intro e discarding
      rw [State.exec_discardProduct hd he]
      refine ⟨fun h => ?_, fun h ht => ?_, fun h ht => ?_⟩
      · rw [State.takeDiscard_beyond hp h]
        rfl
      · rw [State.takeDiscard_targeted hp h ht]
        rfl
      · have state_eq := State.takeDiscard_state hp h ht
        rw [taken h] at state_eq
        refine ⟨fun hs => ?_, fun hs => ?_, fun hs => ?_, fun k hs hk => ?_⟩
        · rw [state_eq, hs]
          rfl
        · rw [state_eq, hs]
          rfl
        · have exists_product : p < s.prod.products.length := State.product_lt (by rw [hs]; decide)
          rw [state_eq, hs]
          refine ⟨rfl, fun hq hn => ?_⟩
          obtain ⟨still, hwaiters, hstalled⟩ := State.still_of_quiet hq
          have kept_code : kept.keptCode = code := hd.keptCode code
          have settles := State.settle_discard (still.keepInHand code) hwaiters hstalled h exists_product
            fun i x hx hprod => not_or.2 ⟨(hn i x hx hprod).1, by simp [(hn i x hx hprod).2]⟩
          rw [kept_code, ← code_eq h] at settles
          exact congrArg Host.Outcome.next settles
        · have halts : s.takeDiscard r = kept.halt .discard := by
            rw [State.takeDiscard_halts hp h ht hs, taken h]
          have kept_code : kept.keptCode = code := hd.keptCode code
          rw [halts]
          refine ⟨fun hf => ?_, fun hf hprod => ?_⟩
          · rw [State.halt_flying (s := kept) hf]
            rfl
          · rw [State.halt_idle (s := kept) hk hf, kept_code, code_eq h, ← hprod]
            rfl
  · exact fun s asker pick => ⟨rfl, fun x => State.mem_flushSet⟩
  · intro s waits
    refine ⟨State.flushAdvance_waits, fun l1 f l2 hs hf hl => ?_, fun h => ?_⟩
    · intro t
      have advanced := State.flushAdvance_one hs hf hl
      refine ⟨fun bank r ha hr => ?_, fun p ha => ?_⟩
      · rw [advanced]
        exact State.flushDone_drain ha hr
      · rw [advanced, State.flushDone_freeze ha]
        rfl
    · intro whole
      rw [State.flushAdvance_drains h]
      rfl
  · intro s p hm stays t
    have same : t = s.dropEntries (droppable p) := by
      refine State.dropEntries_congr fun i e _ => ?_
      simp [droppable]
    rw [same]
    exact ⟨State.discardStep_waits hm, State.discardStep_done hm⟩

end Sys2Proof.Machine

namespace Sys2Proof.Machine

/-! ### Reports: begun and finished (O40) -/

/-! #### The descriptor finishes (R138) -/

theorem State.raise_eq {s : State} (h : s.part ≠ .bypass) (c : Cause) :
    s.raise c = s.onNotice fun n => { n with pending := n.pending ||| c.bit, wanted := true } := if_neg h

/-- The controller once a report's last unit has been granted: the descriptor FINISHED, the ring advanced and the report
sequence taken. -/
def ExposureCtl.finishes (w : ReportWrite) (e : ExposureCtl) : ExposureCtl :=
  { ExposureCtl.advance { e with
      report := none
      tasks := e.tasks.filter fun u => !decide (u = .report)
      ring := e.ring.map fun r => if r.number = w.due.number then { r with state := .finished, due := false } else r } with
    reportSeq := w.sequence }

/-- The descriptors FINISHED at the head leave the ring. -/
theorem ExposureCtl.finishes_eq {e : ExposureCtl} {w : ReportWrite} {l1 l2 : List RingEntry}
    (hring : e.ring.map (fun c => if c.number = w.due.number then { c with state := .finished, due := false } else c) = l1 ++ l2)
    (h1 : ∀ c ∈ l1, c.state = .finished) (h2 : ∀ c l, l2 = c :: l → c.state ≠ .finished) :
    e.finishes w = { e with
      ring := l2, consume := (e.consume + l1.length) % 256, reportSeq := w.sequence, report := none
      tasks := e.tasks.filter fun u => !decide (u = .report) } := by
  have head : (l1 ++ l2).takeWhile (fun r => decide (r.state = .finished)) = l1 := by
    rw [List.takeWhile_append_of_pos fun c hc => decide_eq_true (h1 c hc)]
    cases l2 with
    | nil => rw [List.takeWhile_nil, List.append_nil]
    | cons c l => rw [List.takeWhile_cons_of_neg (by simpa using h2 c l rfl), List.append_nil]
  simp only [ExposureCtl.finishes, ExposureCtl.advance, hring, head, List.drop_left]

/-- The controller has finished the descriptor, and EXPOSURE_DONE is raised. -/
def State.descriptorDone (s : State) (w : ReportWrite) : State :=
  (s.onExpo fun e => e.finishes w).raise .exposureDone

section Finish

variable {s : State} {w : ReportWrite} {number : Nat}

theorem State.finishDescriptor_rejected {tag product bank : Nat} {why : Rejection} {x : List (Nat × Exclusion)}
    (h : w.due = ⟨number, .rejected tag product bank why x⟩) : s.finishDescriptor w = s.descriptorDone w := by
  rw [State.finishDescriptor, h]
  simp only [State.descriptorDone, ExposureCtl.finishes, h]
  rfl

theorem State.finishDescriptor_ended {bank : Nat} {r : ExposureRecord} (h : w.due = ⟨number, .ended bank⟩)
    (hr : s.recordOf bank = some r) :
    s.finishDescriptor w = (((s.descriptorDone w).evaluateHealth r.included).freeRecord bank).beginDeferred := by
  have found : (s.descriptorDone w).recordOf bank = some r := by
    rw [State.recordOf, State.descriptorDone, State.raise_expo]
    exact hr
  have finishes_eq : s.descriptorDone w = State.raise .exposureDone
      ((((s.onExpo fun e => { e with report := none }).endTask .report).onRing w.due.number fun r =>
        { r with state := .finished, due := false }).onExpo fun e => { e.advance with reportSeq := w.sequence }) := rfl
  rw [State.finishDescriptor]
  dsimp only
  rw [← finishes_eq, h]
  simp only [found]

end Finish

/-! #### The health of the included tiles (R193) -/

section Health

variable {p : Plan} {tiles : List Health}

theorem evaluateTiles_cons (c : TileCount) (l : List TileCount) :
    ∃ quarantine : Bool, (quarantine = true ↔ ∃ e, p.tiles[c.tile]? = some e ∧ e.quarantine = true) ∧
      evaluateTiles p tiles (c :: l) =
        evaluateTiles p (tiles.modify c.tile fun h => h.evaluate c p quarantine) l := by
  refine ⟨match p.tiles[c.tile]? with
    | some t => t.quarantine
    | none => false, ?_, ?_⟩
  · cases p.tiles[c.tile]? <;> simp
  · rfl

theorem length_evaluateTiles (l : List TileCount) : (evaluateTiles p tiles l).length = tiles.length := by
  induction l generalizing tiles with
  | nil => rfl
  | cons c l ih =>
    obtain ⟨quarantine, -, hl⟩ := evaluateTiles_cons (p := p) (tiles := tiles) c l
    rw [hl, ih, List.length_modify]

theorem getElem?_evaluateTiles_other {i : Nat} {l : List TileCount} (h : ∀ c ∈ l, c.tile ≠ i) :
    (evaluateTiles p tiles l)[i]? = tiles[i]? := by
  induction l generalizing tiles with
  | nil => rfl
  | cons c l ih =>
    obtain ⟨quarantine, -, hl⟩ := evaluateTiles_cons (p := p) (tiles := tiles) c l
    rw [hl, ih fun x hx => h x (List.mem_cons_of_mem _ hx), List.getElem?_modify_ne _ _ (h c List.mem_cons_self)]

/-- Each included tile is evaluated once, with its own counts. -/
theorem getElem?_evaluateTiles {c : TileCount} {l : List TileCount} (hl : (l.map fun c => c.tile).Nodup) (hc : c ∈ l)
    {h : Health} (hh : tiles[c.tile]? = some h) :
    ∃ quarantine : Bool, (quarantine = true ↔ ∃ e, p.tiles[c.tile]? = some e ∧ e.quarantine = true) ∧
      (evaluateTiles p tiles l)[c.tile]? = some (h.evaluate c p quarantine) := by
  induction l generalizing tiles with
  | nil => cases hc
  | cons d l ih =>
    obtain ⟨quarantine, hq, heq⟩ := evaluateTiles_cons (p := p) (tiles := tiles) d l
    obtain ⟨hd, hl⟩ := List.nodup_cons.1 hl
    have apart : ∀ x ∈ l, x.tile ≠ d.tile := fun x hx he => hd (List.mem_map.2 ⟨x, hx, he⟩)
    rw [heq]
    rcases List.mem_cons.1 hc with rfl | hc
    · refine ⟨quarantine, hq, ?_⟩
      rw [getElem?_evaluateTiles_other apart, List.getElem?_modify_eq, hh]
      rfl
    · exact ih hl hc ((List.getElem?_modify_ne _ _ (apart c hc).symm).trans hh)

/-- Some tile's state changed. -/
theorem worsened_iff {before after : List Health} : worsened before after = true ↔
    ∃ (i : Nat) (h h' : Health), before[i]? = some h ∧ after[i]? = some h' ∧ h.state ≠ h'.state := by
  simp only [worsened, List.any_eq_true, decide_eq_true_eq]
  constructor
  · rintro ⟨⟨h, h'⟩, hz, hne⟩
    obtain ⟨i, hi⟩ := List.mem_iff_getElem?.1 hz
    obtain ⟨hb, ha⟩ := List.getElem?_zip_eq_some.1 hi
    exact ⟨i, h, h', hb, ha, hne⟩
  · rintro ⟨i, h, h', hb, ha, hne⟩
    exact ⟨(h, h'), List.mem_iff_getElem?.2 ⟨i, List.getElem?_zip_eq_some.2 ⟨hb, ha⟩⟩, hne⟩

theorem reaches_iff {count threshold : Nat} : reaches count threshold = true ↔ threshold ≠ 0 ∧ threshold ≤ count := by
  simp [reaches]

section Evaluate

variable (h : Health) (c : TileCount) (quarantine : Bool)

/-- The tile reaches a threshold that is on. -/
def Plan.Hit (p : Plan) (c : TileCount) : Prop :=
  (p.satThreshold ≠ 0 ∧ p.satThreshold ≤ c.saturated) ∨ (p.rejThreshold ≠ 0 ∧ p.rejThreshold ≤ c.rejected) ∨
    (p.faultThreshold ≠ 0 ∧ p.faultThreshold ≤ c.faults)

theorem hit_iff : (reaches c.saturated p.satThreshold || reaches c.rejected p.rejThreshold ||
    reaches c.faults p.faultThreshold) = true ↔ p.Hit c := by
  simp only [Bool.or_eq_true, reaches_iff, Plan.Hit, or_assoc]

theorem Health.evaluate_unhit (hn : ¬p.Hit c) : (h.evaluate c p quarantine).state = h.state :=
  if_neg (mt (hit_iff c).1 hn)

theorem Health.evaluate_hit (hh : p.Hit c) : (h.evaluate c p quarantine).state = h.state.worsen quarantine :=
  if_pos ((hit_iff c).2 hh)

end Evaluate

theorem HealthState.worsen_quarantines {h : HealthState} {quarantine : Bool} (hq : h = .quarantined ∨ quarantine = true) :
    h.worsen quarantine = .quarantined := by
  rcases hq with rfl | rfl
  · rfl
  · cases h <;> rfl

theorem HealthState.worsen_warns {h : HealthState} {quarantine : Bool} (hq : ¬(h = .quarantined ∨ quarantine = true)) :
    h.worsen quarantine = .warned := by
  obtain ⟨hn, hf⟩ := not_or.1 hq
  rw [Bool.not_eq_true] at hf
  subst hf
  cases h with
  | quarantined => exact absurd rfl hn
  | normal | warned => rfl

/-- What an included tile's record is after the evaluation: its counts grown, and its state moved where it reaches a
threshold that is on. -/
theorem evaluateTiles_included {c : TileCount} {l : List TileCount} (hl : (l.map fun c => c.tile).Nodup) (hc : c ∈ l)
    {h : Health} (hh : tiles[c.tile]? = some h) : ∃ h', (evaluateTiles p tiles l)[c.tile]? = some h' ∧
      h'.saturated = min (h.saturated + c.saturated) 4294967295 ∧
      h'.rejected = min (h.rejected + c.rejected) 4294967295 ∧ h'.faults = min (h.faults + c.faults) 4294967295 ∧
      (¬p.Hit c → h'.state = h.state) ∧
      (p.Hit c → (h.state = .quarantined ∨ ∃ e, p.tiles[c.tile]? = some e ∧ e.quarantine = true) →
        h'.state = .quarantined) ∧
      (p.Hit c → ¬(h.state = .quarantined ∨ ∃ e, p.tiles[c.tile]? = some e ∧ e.quarantine = true) →
        h'.state = .warned) := by
  obtain ⟨quarantine, hquarantine, heq⟩ := getElem?_evaluateTiles (p := p) hl hc hh
  refine ⟨h.evaluate c p quarantine, heq, rfl, rfl, rfl, Health.evaluate_unhit h c quarantine, fun hhit hq => ?_,
    fun hhit hq => ?_⟩
  · rw [Health.evaluate_hit h c quarantine hhit, HealthState.worsen_quarantines (hq.imp_right hquarantine.2)]
  · rw [Health.evaluate_hit h c quarantine hhit, HealthState.worsen_warns (mt (Or.imp_right hquarantine.1) hq)]

end Health

section Evaluated

variable {s : State} {p : Plan} (hplan : s.loader.plan = some p) (hpart : s.part ≠ .bypass) (included : List TileCount)
include hplan

/-- An evaluation changes the tiles, asks for a status block and, if some tile worsened, raises TILE_ATTENTION. -/
theorem State.evaluateHealth_eq : s.evaluateHealth included =
    let evaluated : State := s.onNotice fun n =>
      { n with tiles := evaluateTiles p s.notice.tiles included, wanted := true }
    if worsened s.notice.tiles (evaluateTiles p s.notice.tiles included) then evaluated.raise .tileAttention
    else evaluated := by
  rw [State.evaluateHealth, hplan]

include hpart

/-- The notice unit after an evaluation. -/
theorem State.evaluateHealth_notice : s.evaluateHealth included = s.onNotice fun n => { n with
    tiles := evaluateTiles p n.tiles included
    wanted := true
    pending := if worsened n.tiles (evaluateTiles p n.tiles included) then n.pending ||| 0x100#9 else n.pending } := by
  rw [State.evaluateHealth_eq hplan]
  dsimp only
  by_cases hw : worsened s.notice.tiles (evaluateTiles p s.notice.tiles included) = true
  · rw [if_pos hw, State.raise_eq (s := s.onNotice _) hpart]
    simp only [State.onNotice, if_pos hw]
    rfl
  · rw [if_neg hw]
    simp only [State.onNotice, if_neg hw]

end Evaluated

/-! #### A deferred commit (R11) -/

section BeginDeferred

variable (s : State)

@[simp] theorem State.beginDeferred_expo : s.beginDeferred.expo = s.expo := by
  unfold State.beginDeferred
  split
  · unfold State.beginLoad State.planAsk
    repeat' split
    all_goals rfl
  · rfl

@[simp] theorem State.beginDeferred_notice : s.beginDeferred.notice = s.notice := by
  unfold State.beginDeferred
  split
  · unfold State.beginLoad State.planAsk
    repeat' split
    all_goals rfl
  · rfl

variable {s}

theorem State.beginDeferred_waits (h : s.loader.pendingMark = false ∨ s.loader.load ≠ none ∨ s.expo.records ≠ [] ∨
    s.restartInHand = true) : s.beginDeferred = s := by
  refine if_neg ?_
  rintro ⟨hp, hl, hx, hr⟩
  rcases h with h | h | h | h
  · simp [hp] at h
  · exact h hl
  · exact h hx
  · simp [hr] at h

theorem State.beginDeferred_loads (hp : s.loader.pendingMark = true) (hl : s.loader.load = none)
    (hx : s.expo.records = []) (hr : s.restartInHand = false) (ha : s.asking isPlanRead = false) :
    s.beginDeferred = (s.onLoader fun l => { l with load := some ⟨1, [], none, false, false⟩ }).ask
      ⟨.planRead 0, s.planBase, none⟩ := by
  rw [← State.beginLoad_eq ha]
  exact if_pos ⟨hp, hl, hx, hr⟩

end BeginDeferred

/-! #### What the controller asks for next leaves the rest of it -/

/-- The parts of the controller that its port work does not touch while no report is being written. -/
def ExposureCtl.aside (e : ExposureCtl) : List RingEntry × Nat × Nat × List ExposureRecord × Option ReportWrite :=
  (e.ring, e.consume, e.reportSeq, e.records, e.report)

section ExpoAsk

variable {s : State} (h : s.expo.report = none)
include h

theorem State.taskAsk_aside {u : ExpoTask} {x : Ask × (ExposureCtl → ExposureCtl)} (hx : s.taskAsk u = some x)
    (e : ExposureCtl) : (x.2 e).aside = e.aside := by
  cases u with
  | activation =>
    obtain ⟨a, -, ha⟩ := Option.bind_eq_some_iff.1 hx
    obtain ⟨-, ha⟩ := (Option.ite_none_right_eq_some).1 ha
    obtain rfl := Option.some.inj ha
    rfl
  | search =>
    obtain ⟨q, -, hq⟩ := Option.bind_eq_some_iff.1 hx
    obtain ⟨-, hq⟩ := (Option.ite_none_left_eq_some).1 hq
    obtain rfl := Option.some.inj hq
    rfl
  | report => simp [State.taskAsk, h] at hx

theorem State.expoAsk_aside : s.expoAsk.expo.aside = s.expo.aside := by
  unfold State.expoAsk
  split
  · rfl
  · split
    · rfl
    · next a f hf =>
      obtain ⟨u, -, hu⟩ := List.exists_of_findSome?_eq_some hf
      exact State.taskAsk_aside h (x := (a, f)) hu s.expo

end ExpoAsk

section ExpoAskLeaves

variable (s : State)

@[simp] theorem State.expoAsk_notice : s.expoAsk.notice = s.notice := by
  unfold State.expoAsk
  repeat' split
  all_goals rfl

@[simp] theorem State.expoAsk_bus : s.expoAsk.bus = s.bus := by
  unfold State.expoAsk
  repeat' split
  all_goals rfl

@[simp] theorem State.expoAsk_merge : s.expoAsk.merge = s.merge := by
  unfold State.expoAsk
  repeat' split
  all_goals rfl

@[simp] theorem State.expoAsk_pipe : s.expoAsk.pipe = s.pipe := by
  unfold State.expoAsk
  repeat' split
  all_goals rfl

@[simp] theorem State.expoAsk_prod : s.expoAsk.prod = s.prod := by
  unfold State.expoAsk
  repeat' split
  all_goals rfl

end ExpoAskLeaves

/-- Whether a part is quiet depends on the bus front, the merge buffer, the pipeline and the products alone. -/
theorem State.quiet_congr {s t : State} (hb : t.bus = s.bus) (hm : t.merge = s.merge) (hpipe : t.pipe = s.pipe)
    (hprod : t.prod = s.prod) : t.quiet = s.quiet := by
  obtain ⟨⟩ := s
  obtain ⟨⟩ := t
  dsimp only at hb hm hpipe hprod
  subst hb hm hpipe hprod
  rfl

/-- A controller with only a report to write, none of its units asked, asks for the first at once (R137). -/
theorem State.expoAsk_report {s : State} {w : ReportWrite} (ht : s.expo.tasks = [.report])
    (hw : s.expo.report = some w) (h0 : w.asked = 0) (hn : 0 < w.units.length) (ha : s.asking isExpoJob = false) :
    s.expoAsk = (s.onExpo fun e => { e with report := some { w with asked := 1 } }).ask
      ⟨.reportUnit 0, s.reportAddr w.sequence, some ⟨0xFF#8, w.units.getD 0 0#64⟩⟩ := by
  simp [State.expoAsk, ha, ht, State.taskAsk, hw, h0, hn]

theorem State.exec_reportWriteStart {s : State} {d : ReportDue} {rest : List ReportDue} (hr : s.inReset = false)
    (hreport : s.expo.report = none) (hdue : s.expo.due = d :: rest) :
    exec .reportWriteStart s = .next (s.startReport d rest) := by
  change s.happen s.reportEvent = _
  simp [State.happen, hr, State.reportEvent, hreport, hdue]

/-! #### A report's last unit -/

/-- The last unit of a rejection's report finishes the descriptor at the head of the ring, and nothing more (R125,
R138). -/
theorem State.descriptorDone_head {s : State} {w : ReportWrite} {number : Nat} {c : RingEntry} {l : List RingEntry}
    (hp : s.part ≠ .bypass) (hw : w.due.number = number) (hring : s.expo.ring = c :: l) (hc : c.number = number)
    (hl : ∀ y ∈ l, y.number ≠ number ∧ y.state = .pending) :
    s.descriptorDone w = (s.onExpo fun e => { e with
      ring := l, consume := (s.expo.consume + 1) % 256, reportSeq := w.sequence, report := none
      tasks := s.expo.tasks.filter fun u => !decide (u = .report) }).onNotice fun n =>
        { n with pending := n.pending ||| 0x001#9, wanted := true } := by
  have others : l.map (fun c => if c.number = w.due.number then
      ({ c with state := .finished, due := false } : RingEntry) else c) = l := by
    refine (List.map_congr_left fun y hy => if_neg ?_).trans l.map_id'
    rw [hw]
    exact (hl y hy).1
  have ring_eq : s.expo.ring.map (fun c => if c.number = w.due.number then
      ({ c with state := .finished, due := false } : RingEntry) else c) =
        [{ c with state := .finished, due := false }] ++ l := by
    rw [hring, List.map_cons, others, if_pos (hc.trans hw.symm)]
    rfl
  have finishes := ExposureCtl.finishes_eq (w := w) ring_eq (by simp) fun y k hy => by
    have pending := (hl y (by simp [hy])).2
    rw [pending]
    decide
  have done : s.descriptorDone w = (s.onExpo fun e => e.finishes w).onNotice fun n =>
      { n with pending := n.pending ||| 0x001#9, wanted := true } :=
    State.raise_eq (s := s.onExpo fun e => e.finishes w) hp .exposureDone
  rw [done, State.onExpo, finishes]
  rfl

/-- An ended exposure's report written: the descriptor finished, the tiles evaluated and the record freed (R138, R193). -/
def State.reportFreed (s : State) (w : ReportWrite) (p : Plan) (included : List TileCount) (bank : Nat) : State :=
  ((s.onExpo fun e => e.finishes w).onNotice fun n =>
    let after := evaluateTiles p n.tiles included
    { n with
      tiles := after
      wanted := true
      pending := if worsened n.tiles after then n.pending ||| 0x001#9 ||| 0x100#9 else n.pending ||| 0x001#9 }).freeRecord
    bank

section ReportFreed

variable {s : State} {w : ReportWrite} {number bank : Nat} {r : ExposureRecord} {p : Plan}

/-- Of an ended exposure's report the last unit then lets a deferred commit begin (R11). -/
theorem State.finishDescriptor_freed (hdue : w.due = ⟨number, .ended bank⟩) (hrec : s.recordOf bank = some r)
    (hplan : s.loader.plan = some p) (hpart : s.part ≠ .bypass) :
    s.finishDescriptor w = (s.reportFreed w p r.included bank).beginDeferred := by
  have done : s.descriptorDone w = (s.onExpo fun e => e.finishes w).onNotice fun n =>
      { n with pending := n.pending ||| 0x001#9, wanted := true } :=
    State.raise_eq (s := s.onExpo fun e => e.finishes w) hpart .exposureDone
  have plan : (s.descriptorDone w).loader.plan = some p := by
    rw [done]
    exact hplan
  have part : (s.descriptorDone w).part ≠ .bypass := by
    rw [done]
    exact hpart
  rw [State.finishDescriptor_ended hdue hrec, State.evaluateHealth_notice plan part, done]
  rfl

variable (s w bank p) (included : List TileCount)

/-- The controller then, the descriptors FINISHED at the head gone from the ring. -/
theorem State.reportFreed_expo {l1 l2 : List RingEntry}
    (hring : s.expo.ring.map (fun c =>
      if c.number = w.due.number then { c with state := .finished, due := false } else c) = l1 ++ l2)
    (h1 : ∀ c ∈ l1, c.state = .finished) (h2 : ∀ c l, l2 = c :: l → c.state ≠ .finished) :
    (s.reportFreed w p included bank).expo = { s.expo with
      ring := l2, consume := (s.expo.consume + l1.length) % 256, reportSeq := w.sequence, report := none
      tasks := s.expo.tasks.filter fun u => decide (u ≠ .report)
      records := s.expo.records.filter fun y => decide (y.bank ≠ bank), waitBank := false } := by
  have freed : (s.reportFreed w p included bank).expo = { s.expo.finishes w with
      records := (s.expo.finishes w).records.filter fun r => !decide (r.bank = bank), waitBank := false } := rfl
  rw [freed, ExposureCtl.finishes_eq hring h1 h2]
  simp only [ne_eq, decide_not]

variable {s w bank p included}

/-- A commit deferred until no exposure is left begins its load. -/
theorem State.reportFreed_loads (hrecords : (s.reportFreed w p included bank).expo.records = [])
    (hm : s.loader.pendingMark = true) (hl : s.loader.load = none) (hr : s.restartInHand = false)
    (ha : s.asking isPlanRead = false) :
    (s.reportFreed w p included bank).beginDeferred.loader =
        { s.loader with load := some ⟨1, [], none, false, false⟩ } ∧
      (s.reportFreed w p included bank).beginDeferred.port =
        { s.port with asks := s.port.asks ++ [⟨.planRead 0, s.planBase, none⟩] } := by
  rw [State.beginDeferred_loads (s := s.reportFreed w p included bank) hm hl hrecords hr ha]
  exact ⟨rfl, rfl⟩

end ReportFreed

/-- Settles O40: a report's last unit finishes the descriptor (`State.descriptorDone_head`, `State.reportFreed_expo`), an
ended exposure's evaluates its tiles (`evaluateTiles_included`) and may begin a deferred commit
(`State.reportFreed_loads`), and a report is begun by its first unit (`State.expoAsk_report`). -/
theorem reportsWritten : Obligations.ReportsWritten := by
  refine ⟨?_, ?_, ?_⟩
  · intro s a k number tag product bank why x w c l hr ha hj hw hk hdue hring hc hl hp hq
    let g : State := s.granted a
    let done : State := g.descriptorDone w
    have last : g.afterGrant a.job = done.expoAsk := by
      rw [hj, State.afterGrant_reportUnit (s := g) hw, if_pos hk, State.finishDescriptor_rejected hdue]
    have done_eq := State.descriptorDone_head (s := g) (w := w) (number := number) hp (by rw [hdue]) hring hc hl
    have expo_eq := congrArg (fun t : State => t.expo.aside) done_eq
    have notice_eq := congrArg State.notice done_eq
    have report_none : done.expo.report = none := congrArg (fun t : State => t.expo.report) done_eq
    have aside := (State.expoAsk_aside report_none).trans expo_eq
    simp only [ExposureCtl.aside, Prod.mk.injEq] at aside
    obtain ⟨ring, consume, sequence, records, report⟩ := aside
    have bus_eq := congrArg State.bus done_eq
    have merge_eq := congrArg State.merge done_eq
    have pipe_eq := congrArg State.pipe done_eq
    have prod_eq := congrArg State.prod done_eq
    have quiet : done.expoAsk.quiet = true := by
      rw [← hq]
      exact State.quiet_congr (done.expoAsk_bus.trans bus_eq) (done.expoAsk_merge.trans merge_eq)
        (done.expoAsk_pipe.trans pipe_eq) (done.expoAsk_prod.trans prod_eq)
    rw [← State.expoAsk_notice] at notice_eq
    have tiles_eq := congrArg Notice.tiles notice_eq
    refine ⟨done.expoAsk, ?_, ring, consume, sequence, report, congrArg Notice.pending notice_eq,
      congrArg Notice.wanted notice_eq, tiles_eq, records⟩
    rw [State.exec_portGrant hr ha, last, settleQuiet _ quiet]
  · intro s w number bank r p l1 l2 hdue hrec hplan hpart hnodup hring h1 h2 t worse others
    let freed : State := s.reportFreed w p r.included bank
    have number_eq : w.due.number = number := by rw [hdue]
    have t_eq : t = freed.beginDeferred := State.finishDescriptor_freed hdue hrec hplan hpart
    have expo_eq := s.reportFreed_expo w bank p r.included (by rw [number_eq]; exact hring) h1 h2
    have records_eq : freed.expo.records = others := congrArg ExposureCtl.records expo_eq
    have notice_eq : t.notice = freed.notice := by rw [t_eq, State.beginDeferred_notice]
    have tiles_eq : t.notice.tiles = evaluateTiles p s.notice.tiles r.included := congrArg Notice.tiles notice_eq
    have pending_eq : t.notice.pending =
        if worsened s.notice.tiles (evaluateTiles p s.notice.tiles r.included) then
          s.notice.pending ||| 0x001#9 ||| 0x100#9 else s.notice.pending ||| 0x001#9 :=
      congrArg Notice.pending notice_eq
    have worse_iff : worse ↔ worsened s.notice.tiles (evaluateTiles p s.notice.tiles r.included) = true := by
      rw [worsened_iff, ← tiles_eq]
    refine ⟨?_, ?_, fun i hi => ?_, fun c hc h hh => ?_, congrArg Notice.wanted notice_eq, fun hw => ?_, fun hw => ?_,
      fun hm hl hx hi ha => ?_, fun hn => ?_⟩
    · rw [t_eq, State.beginDeferred_expo]
      exact expo_eq
    · rw [tiles_eq, length_evaluateTiles]
    · rw [tiles_eq, getElem?_evaluateTiles_other hi]
    · rw [tiles_eq]
      exact evaluateTiles_included hnodup hc hh
    · rw [pending_eq, if_pos (worse_iff.1 hw), BitVec.or_assoc]
      rfl
    · rw [pending_eq, if_neg (mt worse_iff.2 hw)]
    · rw [t_eq]
      exact State.reportFreed_loads (records_eq.trans hx) hm hl hi ha
    · have waits := State.beginDeferred_waits (s := freed) (by rw [records_eq]; exact hn)
      rw [t_eq, waits]
      exact ⟨rfl, rfl⟩
  · intro s d rest hr hreport hdue ht ha n units
    let begun : State := (s.onExpo fun e => { e with due := rest, report := some ⟨d, n, units, 0⟩ }).beginTask .report
    have tasks : begun.expo.tasks = [.report] := congrArg (· ++ [ExpoTask.report]) ht
    have long : 0 < units.length := by simp [units, unitsOf]
    rw [State.exec_reportWriteStart hr hreport hdue]
    have starts : s.startReport d rest = begun.expoAsk := rfl
    have merged : (begun.onExpo fun e => { e with report := some ⟨d, n, units, 1⟩ }) =
        s.onExpo fun e => { e with due := rest, report := some ⟨d, n, units, 1⟩, tasks := [.report] } := by
      simp [begun, State.beginTask, State.onExpo, ht]
    rw [starts, State.expoAsk_report (s := begun) tasks rfl rfl long ha, merged]
    rfl

end Sys2Proof.Machine

namespace Sys2Proof.Machine

/-! ### RESTART (O36) -/

/-! #### The merge buffer's part, and the completion (R108, R178) -/

section Unchanged

variable {α : Type} {g : State → α}

/-- What neither a flush's end nor the flush list touches. -/
theorem State.flushAdvance_unchanged (hmerge : ∀ (t : State) (f : MergeBuffer → MergeBuffer), g (t.onMerge f) = g t)
    (hdone : ∀ (t : State) (f : Flush), g (t.flushDone f) = g t) (s : State) : g s.flushAdvance = g s := by
  have fold (l : List Flush) (t : State) : g (l.foldl State.flushDone t) = g t := by
    induction l generalizing t with
    | nil => rfl
    | cons f l ih => exact (ih _).trans (hdone t f)
  exact (fold _ _).trans (hmerge s _)

end Unchanged

section FlushDone

variable (s : State) (f : Flush)

@[simp] theorem State.flushDone_restart : (s.flushDone f).bus.restart = s.bus.restart := by
  unfold State.flushDone
  split
  · split <;> rfl
  · rw [State.reply_restart, State.setProduct_bus, State.dropEntries_bus]
  · rfl

@[simp] theorem State.flushDone_pipe : (s.flushDone f).pipe = s.pipe := by
  unfold State.flushDone
  split
  · split <;> rfl
  · rw [State.reply_pipe, State.setProduct_pipe, State.dropEntries_pipe]
  · rfl

@[simp] theorem State.flushAdvance_restart : s.flushAdvance.bus.restart = s.bus.restart :=
  State.flushAdvance_unchanged (g := fun t => t.bus.restart) (fun _ _ => rfl) State.flushDone_restart s

@[simp] theorem State.flushAdvance_pipe : s.flushAdvance.pipe = s.pipe :=
  State.flushAdvance_unchanged (g := State.pipe) (fun _ _ => rfl) State.flushDone_pipe s

end FlushDone

/-- No load, no slot held, no fetch nor discarded read, no row, no exposure and no job (R178). -/
def State.AllIdle (s : State) : Prop :=
  s.loader.load = none ∧ (∀ v ∈ s.capture.slots, v.state = .free) ∧ s.fetch = [] ∧ s.flying isCalDiscard = false ∧
    s.pipe.applying = none ∧ s.expo.records = [] ∧ s.prod.engine.kind = none

theorem State.restartComplete_iff {s : State} {r : RestartProgress} :
    s.restartComplete r = true ↔ r.mergeDone = true ∧ s.AllIdle := by
  simp [State.restartComplete, State.AllIdle, and_assoc]

/-- The RESTART is over, and its reply DONE handed over. -/
def State.restarted (s : State) : State := (s.onBus fun f => { f with restart := none }).reply .done Detail.zero

section RestartReply

variable {s : State} {r : RestartProgress}

theorem State.restartReply_done (hm : r.mergeDone = true) (h : s.AllIdle) : s.restartReply r = s.restarted :=
  if_pos (State.restartComplete_iff.2 ⟨hm, h⟩)

theorem State.restartReply_waits (h : r.mergeDone = false ∨ ¬s.AllIdle) : s.restartReply r = s := by
  refine if_neg fun hc => ?_
  obtain ⟨hm, hi⟩ := State.restartComplete_iff.1 hc
  rcases h with h | h
  · simp [h] at hm
  · exact h hi

end RestartReply

section RestartAdvance

variable {s : State} {r : RestartProgress}

/-- The flush of all four products and the bias states, once the pipeline holds no row (R62, R108). -/
def State.restartBegun (s : State) (r : RestartProgress) : State :=
  if s.pipe.applying = none ∧ r.flushStarted = false then
    ((s.onBus fun f => { f with restart := some { r with flushStarted := true } }).onPipe fun p =>
      { p with bias := List.replicate 512 ⟨false, 0⟩ }).beginFlush .restart fun _ => true
  else s

theorem State.restartFlush_eq : s.restartFlush r = s.restartBegun r := by
  simp only [State.restartFlush, State.restartBegun, Option.isNone_iff_eq_none]

/-- How far the merge buffer's part is once it has begun. -/
def RestartProgress.begun (r : RestartProgress) (idle : Bool) : RestartProgress :=
  { r with flushStarted := r.flushStarted || idle }

variable (hr : s.bus.restart = some r)
include hr

theorem State.restartBegun_restart :
    (s.restartBegun r).bus.restart = some (r.begun s.pipe.applying.isNone) := by
  unfold State.restartBegun RestartProgress.begun
  split
  · next h =>
    obtain ⟨idle, unstarted⟩ := h
    rw [idle, unstarted]
    rfl
  · next h =>
    rw [hr]
    obtain ⟨started, merged⟩ := r
    cases started with
    | true => rfl
    | false =>
      have holds_row : s.pipe.applying ≠ none := fun hn => h ⟨hn, rfl⟩
      simp [Option.isSome_iff_ne_none, holds_row]

theorem State.restartAdvance_eq : s.restartAdvance =
    match ((s.restartBegun r).flushAdvance.restartDrop (r.begun s.pipe.applying.isNone)).bus.restart with
    | none => (s.restartBegun r).flushAdvance.restartDrop (r.begun s.pipe.applying.isNone)
    | some x => ((s.restartBegun r).flushAdvance.restartDrop (r.begun s.pipe.applying.isNone)).restartReply x := by
  have advanced : (s.restartBegun r).flushAdvance.bus.restart = some (r.begun s.pipe.applying.isNone) := by
    rw [State.flushAdvance_restart, State.restartBegun_restart hr]
  simp only [State.restartAdvance, hr, State.restartFlush_eq, advanced] <;> rfl

/-- Nothing to drop yet, or all dropped before. -/
theorem State.restartAdvance_keeps {u : State} (hu : (s.restartBegun r).flushAdvance = u)
    (h : ¬((r.begun s.pipe.applying.isNone).flushStarted = true ∧ r.mergeDone = false ∧ u.merge.flushes = [])) :
    s.restartAdvance = u.restartReply (r.begun s.pipe.applying.isNone) := by
  have undropped : u.restartDrop (r.begun s.pipe.applying.isNone) = u := if_neg h
  have advanced : u.bus.restart = some (r.begun s.pipe.applying.isNone) := by
    rw [← hu, State.flushAdvance_restart, State.restartBegun_restart hr]
  rw [State.restartAdvance_eq hr, hu, undropped, advanced]

/-- The entries are dropped, which completes the merge buffer's part. -/
theorem State.restartAdvance_drops {u : State} (hu : (s.restartBegun r).flushAdvance = u)
    (hs : (r.begun s.pipe.applying.isNone).flushStarted = true) (hm : r.mergeDone = false) (hf : u.merge.flushes = []) :
    s.restartAdvance = ((u.dropEntries fun _ => true).onBus fun f => { f with restart := some ⟨true, true⟩ }).restartReply
      ⟨true, true⟩ := by
  have dropped : u.restartDrop (r.begun s.pipe.applying.isNone) =
      (u.dropEntries fun _ => true).onBus fun f => { f with restart := some ⟨true, true⟩ } := by
    have after : ({ r.begun s.pipe.applying.isNone with mergeDone := true } : RestartProgress) = ⟨true, true⟩ :=
      congrArg (RestartProgress.mk · true) hs
    rw [← after]
    exact if_pos ⟨hs, hm, hf⟩
  rw [State.restartAdvance_eq hr, hu, dropped]
  rfl

end RestartAdvance

/-- With every held entry dropped none is left, and none of them in the use order. -/
theorem State.dropEntries_all (s : State) : (∀ e ∈ (s.dropEntries fun _ => true).merge.entries, e = none) ∧
    (s.dropEntries fun _ => true).dirtyCount = 0 ∧
    ((∀ j ∈ s.merge.order, s.entry j ≠ none) → (s.dropEntries fun _ => true).merge.order = []) := by
  have gone : ∀ e ∈ (s.dropEntries fun _ => true).merge.entries, e = none := by
    intro o ho
    obtain ⟨i, hi, hio⟩ := List.getElem_of_mem ho
    have at_i : (s.dropEntries fun _ => true).entry i = o := by
      rw [State.entry, List.getD_eq_getElem _ _ hi, hio]
    cases o with
    | none => rfl
    | some e => cases ((s.entry_dropEntries_eq_some _).1 at_i).2
  refine ⟨gone, ?_, fun horder => List.eq_nil_iff_forall_not_mem.2 fun j hj => ?_⟩
  · refine List.countP_eq_zero.2 fun o ho => ?_
    rw [gone o ho]
    exact Bool.false_ne_true
  · obtain ⟨there, unpicked⟩ := (State.mem_order_foldl_dropEntry _ s j).1 hj
    refine unpicked ((s.mem_picked_iff _ j).2 ?_)
    obtain ⟨e, he⟩ := Option.ne_none_iff_exists'.1 (horder j there)
    rw [he]
    rfl

/-! #### The job is halted (R158, R167) -/

theorem JobKind.left_eq (k : JobKind) : k.left = if k = .clear then .empty else .frozen := by
  cases k <;> rfl

/-! #### The exposures end (R47, R139) -/

section Prod

variable (s : State) (bank : Nat)

@[simp] theorem State.fetchAsk_prod : s.fetchAsk.prod = s.prod := by
  unfold State.fetchAsk
  split
  · rfl
  · split
    · rfl
    · split <;> rfl

@[simp] theorem State.freeSlot_prod (i : Nat) : (s.freeSlot i).prod = s.prod := State.fetchAsk_prod _

@[simp] theorem State.unbind_prod (late : Bool) : (s.unbind bank late).prod = s.prod := by
  cases h : (s.bank bank).bound with
  | false => rw [State.unbind_unbound h]
  | true => rw [State.unbind_bound h]

@[simp] theorem State.endAborted_prod : (s.endAborted bank).prod = s.prod := State.unbind_prod _ _ _

@[simp] theorem State.drainCheck_prod : (s.drainCheck bank).prod = s.prod := by
  unfold State.drainCheck
  split
  · rfl
  · split <;> rfl

/-- Steps that leave the product controller leave it over a list. -/
theorem State.foldl_prod {α : Type} {f : State → α → State} (h : ∀ (t : State) (a : α), (f t a).prod = t.prod)
    (l : List α) (t : State) : (l.foldl f t).prod = t.prod := by
  induction l generalizing t with
  | nil => rfl
  | cons a l ih => exact (ih _).trans (h t a)

@[simp] theorem State.freeUnapplied_prod : (s.freeUnapplied bank).prod = s.prod :=
  State.foldl_prod (fun t i => t.freeSlot_prod i) _ _

@[simp] theorem State.restartExposures_prod : s.restartExposures.prod = s.prod := by
  unfold State.restartExposures
  dsimp only
  rw [State.foldl_prod fun t b => t.drainCheck_prod b, State.foldl_prod fun t b => t.freeUnapplied_prod b,
    State.foldl_prod fun t b => t.endAborted_prod b]

end Prod

/-! #### What RESTART begins (R178, R202) -/

theorem State.exec_restart {s : State} {r : RequestRecord} (h : s.Dispatched 10 r) :
    exec .restart s = .next s.takeRestart := by
  change s.happen ((s.dispatched 10).map fun _ => s.takeRestart) = _
  simp [State.happen, h.running, h.hand]

/-- The causes cleared, and a status block being written no longer to publish any (R202). -/
def Notice.cleared (n : Notice) : Notice :=
  { n with
    latched := 0#9, pending := 0#9, wanted := true, line := false
    status := n.status.map fun w => { w with publishes := false } }

/-- Of the fields most operations keep, the latched causes and NOTICE are cleared. -/
theorem State.restartNotices_kept (s : State) : s.restartNotices.kept = { s.kept with latched := 0#9, line := false } := by
  unfold State.restartNotices
  dsimp only
  split
  · exact State.raise_kept _ _
  · rfl

theorem State.restartNotices_eq (s : State) : s.restartNotices =
    if s.notice.attention then (s.onNotice Notice.cleared).raise .tileAttention else s.onNotice Notice.cleared := rfl

/-- Every block's part of the RESTART is begun, and the descriptor read in progress is to be discarded (R139). -/
def State.restartBegins (s : State) : State := (s.keepInHand 0).restartNotices.beginRestart.restartRead

theorem State.takeRestart_eq (s : State) : s.takeRestart = s.restartBegins.restartExposures.restartJob.settle := rfl

section Begins

variable (s : State)

theorem State.restartNotices_unchanged {α : Type} {g : State → α}
    (hnotice : ∀ (t : State) (f : Notice → Notice), g (t.onNotice f) = g t)
    (hraise : ∀ t : State, g (t.raise .tileAttention) = g t) : g s.restartNotices = g s := by
  rw [State.restartNotices_eq]
  split
  · rw [hraise, hnotice]
  · exact hnotice _ _

theorem State.restartBegins_records : s.restartBegins.expo.records = s.expo.records :=
  State.restartNotices_unchanged (s.keepInHand 0) (g := fun t => t.expo.records) (fun _ _ => rfl)
    fun t => congrArg ExposureCtl.records (t.raise_expo _)

theorem State.restartBegins_prod : s.restartBegins.prod = s.prod :=
  State.restartNotices_unchanged (s.keepInHand 0) (g := State.prod) (fun _ _ => rfl) fun t => t.raise_prod _

/-- The exposures that are not draining end one after another: all unbound, then their rows freed, then drained (log
40). -/
theorem State.restartExposures_eq {banks : List Nat}
    (hb : banks = (s.expo.records.filter fun x => decide (x.state = .active)).map fun x => x.bank) :
    s.restartExposures = banks.foldl (fun t b => t.drainCheck b) (banks.foldl (fun t b => t.freeUnapplied b)
      (banks.foldl (fun t b => (t.onRecord b ExposureRecord.abort).unbind b true) s)) := by
  have aborts : (fun (t : State) b => t.endAborted b) = fun t b => (t.onRecord b ExposureRecord.abort).unbind b true := by
    funext t b
    exact t.endAborted_eq b
  rw [← aborts, hb]
  rfl

variable {s} in
/-- A running job that is not ending is halted (R158, R167). -/
theorem State.restartJob_eq {t : State} (h : t.prod = s.prod) : t.restartJob =
    if s.prod.engine.kind ≠ none ∧ s.prod.engine.halting = none ∧ s.jobEnding = false then t.halt .restart else t := by
  have ending : t.jobEnding = s.jobEnding := by
    rw [State.jobEnding, State.engineRuns, h]
    rfl
  rw [State.restartJob, State.engineRuns, ending, h]
  simp only [Option.isSome_iff_ne_none]

end Begins

/-- A part with nothing to end: no exposure, job, row, flush, entry, slot, fetch, load or status block in progress, and
every tile NORMAL. -/
structure State.Restful (s : State) : Prop where
  quiet : s.quiet = true
  records : s.expo.records = []
  engine : s.prod.engine.kind = none
  applying : s.pipe.applying = none
  flushes : s.merge.flushes = []
  entries : ∀ e ∈ s.merge.entries, e = none
  slots : ∀ v ∈ s.capture.slots, v.state = .free
  fetch : s.fetch = []
  flying : s.flying isCalDiscard = false
  load : s.loader.load = none
  status : s.notice.status = none
  tiles : ∀ h ∈ s.notice.tiles, h.state = .normal

/-- The part with its bias states unseeded (R62). -/
def State.unseedAll (s : State) : State := s.onPipe fun p => { p with bias := List.replicate 512 ⟨false, 0⟩ }

section Nothing

variable {s : State}

theorem State.dropEntries_none (h : ∀ i, s.entry i = none) {pick : Entry → Bool} : s.dropEntries pick = s := by
  have none_picked : ((List.range s.merge.entries.length).filter fun i => (s.entry i).any pick) = [] :=
    List.filter_eq_nil_iff.2 fun i _ => by simp [h i]
  rw [State.dropEntries, none_picked]
  rfl

theorem State.discardAdvance_none (h : ∀ p < 4, (s.product p).mark ≠ .discarding) : s.discardAdvance = s :=
  State.foldl_discardStep_idle fun p hp => State.discardStep_unmarked (h p (List.mem_range.1 hp))

theorem State.pixelRetry_none (hw : s.waitingPixel = none) (h : ∀ i, s.entry i = none) : s.pixelRetry = s := by
  rw [State.pixelRetry, hw]
  exact State.askFill_none fun i e he => by simp [h i] at he

end Nothing

section Restful

variable {s : State} (h : s.Restful)
include h

theorem State.Restful.unheld (i : Nat) : s.entry i = none := by
  cases he : s.entry i with
  | none => rfl
  | some e => cases h.entries _ (State.mem_entries he)

theorem State.Restful.flushSet (pick : Nat → Bool) : s.flushSet pick = [] := by
  refine List.eq_nil_iff_forall_not_mem.2 fun x hx => ?_
  obtain ⟨-, e, he, -⟩ := State.mem_flushSet.1 hx
  rw [h.unheld] at he
  cases he

theorem State.Restful.allIdle : s.AllIdle :=
  ⟨h.load, h.slots, h.fetch, h.flying, h.applying, h.records, h.engine⟩

/-- With nothing to wait for, a RESTART begun is complete within its step. -/
theorem State.Restful.settle_restart : s.beginRestart.settle = s.unseedAll.reply .done Detail.zero := by
  obtain ⟨still, hwaiters, hstalled⟩ := State.still_of_quiet h.quiet
  let begun : State := s.beginRestart
  let unseeded : State := (s.unseedAll.onBus fun f => { f with restart := some ⟨true, false⟩ })
  have unflushed : begun.flushAdvance = begun := State.flushAdvance_waits (s := begun) (by
    change ∀ f ∈ s.merge.flushes, _
    simp [h.flushes])
  have undiscarded : begun.discardAdvance = begun := State.discardAdvance_none still.undiscarded
  have unwaiting : begun.pixelRetry = begun := State.pixelRetry_none (congrArg (Option.bind · _) h.applying) h.unheld
  have flushed : (begun.restartBegun ⟨false, false⟩).flushAdvance = unseeded := by
    let flushing : State := unseeded.beginFlush .restart fun _ => true
    have begins : begun.restartBegun ⟨false, false⟩ = flushing := if_pos ⟨h.applying, rfl⟩
    have flushes_eq : flushing.merge.flushes = [] ++ ⟨.restart, []⟩ :: [] := by
      change s.merge.flushes ++ [⟨.restart, s.flushSet fun _ => true⟩] = _
      rw [h.flushes, h.flushSet]
    rw [begins, State.flushAdvance_one flushes_eq (by simp [Flush.Waits]) (by simp)]
    exact congrArg (fun x => { unseeded with merge := { unseeded.merge with flushes := x } }) h.flushes.symm
  have idle : s.pipe.applying.isNone = true := by
    rw [h.applying]
    rfl
  have kept : unseeded.dropEntries (fun _ => true) = unseeded := State.dropEntries_none (s := unseeded) h.unheld
  have over_eq : (unseeded.onBus fun f => { f with restart := some ⟨true, true⟩ }).restarted =
      s.unseedAll.reply .done Detail.zero := by
    have bus_eq : ((unseeded.onBus fun f => { f with restart := some ⟨true, true⟩ }).onBus fun f =>
        { f with restart := none }) = s.unseedAll :=
      congrArg (fun x => { s.unseedAll with bus := { s.bus with restart := x } }) still.restart.symm
    rw [State.restarted, bus_eq]
  have merged : begun.mergeSettle = s.unseedAll.reply .done Detail.zero := by
    rw [State.mergeSettle, State.cellsAdvance_none (s := begun) still.heldCells, unflushed, undiscarded, unwaiting,
      unflushed, State.restartAdvance_drops (s := begun) rfl flushed idle rfl h.flushes, kept]
    exact (State.restartReply_done (s := unseeded.onBus _) (r := ⟨true, true⟩) rfl h.allIdle).trans over_eq
  change begun.mergeSettle.retake _ = _
  rw [merged]
  exact State.retake_idle (by rw [State.reply_lockWaiters]; exact hwaiters) (by rw [State.reply_stalled]; exact hstalled) _

end Restful

/-- Keeping the request in hand leaves no trace once it is answered. -/
theorem State.reply_keepInHand (s : State) (taken : Nat) (o : ReplyOutcome) (d : Detail) :
    (s.keepInHand taken).reply o d = s.reply o d := by
  unfold State.reply
  cases h : s.bus.inHand with
  | none =>
    have hand : (s.keepInHand taken).bus.inHand = none := by simp [State.keepInHand, State.onBus, h]
    rw [hand]
    exact State.onBus_eq_self (congrArg (fun x => { s.bus with inHand := x }) (by rw [h]; rfl))
  | some q =>
    have hand : (s.keepInHand taken).bus.inHand = some { q with stage := .working taken } := by
      simp [State.keepInHand, State.onBus, h]
    rw [hand]
    rfl

/-- What a RESTART leaves and clears of the notices and the settings (R200, R202). -/
theorem State.takeRestart_kept (s : State) : s.takeRestart.kept = { s.kept with latched := 0#9, line := false } := by
  have taken : s.takeRestart.kept = (s.keepInHand 0).restartNotices.kept := by simp [State.takeRestart]
  rw [taken, State.restartNotices_kept, State.keepInHand_kept]

/-- Where no exposure and no job runs, a RESTART ends none. -/
theorem State.takeRestart_unoccupied {s begun : State} (hb : s.restartBegins = begun) (hrec : begun.expo.records = [])
    (hk : begun.prod.engine.kind = none) : s.takeRestart = begun.settle := by
  have exposures : begun.restartExposures = begun :=
    State.restartExposures_eq (banks := []) begun (by rw [hrec]; rfl)
  have job : begun.restartJob = begun := by
    rw [State.restartJob_eq (s := begun) rfl, if_neg (by simp [hk])]
  rw [State.takeRestart_eq, hb, exposures, job]

theorem Notice.cleared_eq {n : Notice} (h : n.status = none) :
    n.cleared = { n with latched := 0#9, pending := 0#9, wanted := true, line := false } :=
  congrArg (fun x => { n with latched := 0#9, pending := 0#9, wanted := true, line := false, status := x })
    ((congrArg (Option.map _) h).trans h.symm)

/-- Where no status block is being written and every tile is NORMAL, the notices are cleared alone. -/
theorem State.restartBegins_calm {s : State} (hst : s.notice.status = none)
    (htiles : ∀ h ∈ s.notice.tiles, h.state = .normal) : s.restartBegins =
      (((s.onNotice fun n => { n with latched := 0#9, pending := 0#9, wanted := true, line := false }).onExpo fun e =>
        { e with activation := e.activation.map fun a => { a with discard := true } }).keepInHand 0).beginRestart := by
  have calm : (s.keepInHand 0).notice.attention = false := by
    simpa [Notice.attention] using htiles
  have notices : (s.keepInHand 0).restartNotices = (s.keepInHand 0).onNotice fun n =>
      { n with latched := 0#9, pending := 0#9, wanted := true, line := false } := by
    rw [State.restartNotices_eq, if_neg (Bool.eq_false_iff.1 calm)]
    exact State.onNotice_congr (Notice.cleared_eq hst)
  rw [State.restartBegins, notices]
  rfl

/-- The part of a RESTART in hand, as far as it goes (R62, R108, R178). -/
theorem State.restartAdvance_goes {s : State} {r : RestartProgress} (hr : s.bus.restart = some r) {u dropped : State}
    (hu : (s.restartBegun r).flushAdvance = u)
    (hd : dropped = (u.dropEntries fun _ => true).onBus fun f => { f with restart := some ⟨true, true⟩ }) :
    (¬(r.flushStarted = true ∨ s.pipe.applying = none) ∨ (r.mergeDone = false ∧ u.merge.flushes ≠ []) →
      s.restartAdvance = u) ∧
    (r.flushStarted = true ∨ s.pipe.applying = none → r.mergeDone = false → u.merge.flushes = [] →
      (dropped.AllIdle → s.restartAdvance = dropped.restarted) ∧ (¬dropped.AllIdle → s.restartAdvance = dropped)) ∧
    (r.flushStarted = true ∨ s.pipe.applying = none → r.mergeDone = true →
      (u.AllIdle → s.restartAdvance = u.restarted) ∧ (¬u.AllIdle → s.restartAdvance = u)) := by
  have started_iff : (r.begun s.pipe.applying.isNone).flushStarted = true ↔
      r.flushStarted = true ∨ s.pipe.applying = none := by
    simp [RestartProgress.begun]
  have merge_eq : (r.begun s.pipe.applying.isNone).mergeDone = r.mergeDone := rfl
  have pipe_eq : u.pipe.applying = s.pipe.applying := by
    rw [← hu, State.flushAdvance_pipe, State.restartBegun]
    split <;> rfl
  subst hd
  refine ⟨fun h => ?_, fun hs hm hf => ?_, fun hs hm => ?_⟩
  · rcases h with h | ⟨hm, hf⟩
    · have keeps := State.restartAdvance_keeps hr hu fun hc => h (started_iff.1 hc.1)
      rw [keeps, State.restartReply_waits (.inr ?_)]
      rintro ⟨-, -, -, -, happ, -⟩
      exact h (.inr (pipe_eq.symm.trans happ))
    · rw [State.restartAdvance_keeps hr hu fun hc => hf hc.2.2, State.restartReply_waits (.inl (merge_eq.trans hm))]
  · have drops := State.restartAdvance_drops hr hu (started_iff.2 hs) hm hf
    exact ⟨fun hi => drops.trans (State.restartReply_done rfl hi), fun hi => drops.trans (State.restartReply_waits (.inr hi))⟩
  · have keeps := State.restartAdvance_keeps hr hu fun hc => by simp [hm] at hc
    exact ⟨fun hi => keeps.trans (State.restartReply_done (merge_eq.trans hm) hi),
      fun hi => keeps.trans (State.restartReply_waits (.inr hi))⟩

/-- Settles O36: what begins (`State.restartNotices_eq`, `State.restartExposures_eq`, `State.restartJob_eq`), the halt
(`State.halt_flying`, `State.halt_idle`), and how far the merge buffer's part and the completion go
(`State.restartAdvance_goes`, `State.Restful.settle_restart`). -/
theorem restartTaken : Obligations.RestartTaken := by
  refine ⟨fun s r hd => ⟨?_, ?_, ?_⟩, fun s k hk => ?_, fun s r hr => ?_⟩
  · obtain ⟨t, ht, kept⟩ : ∃ t, exec .restart s = .next t ∧ t.kept = { s.kept with latched := 0#9, line := false } :=
      ⟨s.takeRestart, State.exec_restart hd, s.takeRestart_kept⟩
    exact ⟨t, ht, congrArg Kept.latched kept, congrArg Kept.line kept,
      congrArg Kept.mask kept, congrArg Kept.plan kept, congrArg Kept.part kept, congrArg Kept.straps kept,
      congrArg Kept.mem kept, congrArg Kept.fairness kept⟩
  · intro cleared noticed begun banks unbound freed drained
    have begins : s.restartBegins = begun := rfl
    have exposures : begun.restartExposures = drained := State.restartExposures_eq begun (by
      rw [← begins, State.restartBegins_records])
    have prod_eq : drained.prod = s.prod := by
      rw [← exposures, State.restartExposures_prod, ← begins, State.restartBegins_prod]
    rw [State.exec_restart hd, State.takeRestart_eq, begins, exposures, State.restartJob_eq prod_eq]
  · intro hq hrec hk happ hfl hent hsl hfe hfly hload hst htiles
    let calmed : State := (s.onNotice fun n =>
        { n with latched := 0#9, pending := 0#9, wanted := true, line := false }).onExpo fun e =>
          { e with activation := e.activation.map fun a => { a with discard := true } }
    have restful : (calmed.keepInHand 0).Restful := ⟨hq, hrec, hk, happ, hfl, hent, hsl, hfe, hfly, hload, hst, htiles⟩
    rw [State.exec_restart hd, State.takeRestart_unoccupied (State.restartBegins_calm hst htiles) hrec hk,
      restful.settle_restart]
    exact congrArg Host.Outcome.next (State.reply_keepInHand calmed.unseedAll 0 .done Detail.zero)
  · intro t
    refine ⟨fun hf => ?_, fun hf => ?_⟩
    · rw [State.halt_flying hf]
      rfl
    · rw [State.halt_idle hk hf, ← k.left_eq]
      rfl
  · intro begun u dropped idle done started
    obtain ⟨waits, drops, keeps⟩ := State.restartAdvance_goes hr (u := u) (dropped := dropped) rfl rfl
    obtain ⟨gone, clean, order⟩ := u.dropEntries_all
    exact ⟨waits, fun hs hm hf => ⟨gone, clean, order, drops hs hm hf⟩, keeps⟩

end Sys2Proof.Machine
